-- ==== Sys2Proof/Word.lean ====
section
/-! DEFINITION. The word types of AFC: bytes, byte sequences, the 16-bit frame-check register, and the opaque error
value of the bus transport. -/

namespace Sys2Proof

/-- A byte, 0 to 255 (R9). -/
abbrev Byte := BitVec 8

/-- A 16-bit register value: the frame-check accumulator (R21) and the register port's view (R41). -/
abbrev Word16 := BitVec 16

/-- A byte sequence, first byte first (R10). -/
abbrev Bytes := List Byte

/-- Text as a list of characters (R243, R249, R260). -/
abbrev Text := List Char

/-- The transport's opaque error value `e` (R66). DESIGN CHOICE, log 3: a natural number that AFC only passes on. -/
abbrev BusErr := Nat

end Sys2Proof
end

