-- ==== Sys2Proof/Config.lean ====
section
/-! DEFINITION. What is fixed for AFC: the enumerations of the spec, the types of the build-time parameters of R8, the
fixed constants of R8, and the one free value (LIB_SLEEP_ON_ERROR). The parameters' default values stand in
Machine/Defaults.lean. -/

namespace Sys2Proof

/-- The eleven Status Codes in the source's order; the position is the `STATUS` index (R181). -/
inductive Status where
  | success
  | checksumOrVerifyMiscompare
  | parseError
  | eccFault
  | selfTestError
  | healthTestError
  | executionError
  | afterWakeBeforeFirstCommand
  | watchdogExpiringSoon
  | communicationError
  | unknown
  deriving DecidableEq, Repr

/-- The six capabilities of the Self-Test Result Mask, in the report order (R248). -/
inductive Capability where
  | sha
  | aes
  | ecdh
  | ecdsaSign
  | ecdsaVerify
  | rngDrbg
  deriving DecidableEq, Repr

/-- The three kinds of bus location AFC touches (R62): device `0x00` register 0, the real device's register 0, and the
real device's command register. -/
inductive BusLoc where
  | wakeReg0
  | devReg0
  | devCommand
  deriving DecidableEq, Repr

/-- The parameter `STATUS_MAP` (R8, R181): the eight byte values the source does not give. `Success` is `0x00` and
`ChecksumOrVerifyMiscompare` is `0x01` in every value of the parameter (R184 (a), (b)). -/
structure StatusMap where
  parseError : Byte
  eccFault : Byte
  selfTestError : Byte
  healthTestError : Byte
  executionError : Byte
  afterWake : Byte
  watchdog : Byte
  communicationError : Byte
  deriving DecidableEq, Repr

/-- The parameter `ST_BITS` (R8, R248): the five bit positions the source does not give; SHA is bit 5. -/
structure StBits where
  aes : Fin 8
  ecdh : Fin 8
  ecdsaSign : Fin 8
  ecdsaVerify : Fin 8
  rngDrbg : Fin 8
  deriving DecidableEq, Repr

/-- The build-time parameters of R8 that the steps read (R45). `SETTLE_MS` and `CMD_REG` are the registers
`CFG_SETTLE` and `CFG_CMDREG` of State. -/
structure Params where
  statusMap : StatusMap
  stBits : StBits
  opcRead : Byte
  opcSelftest : Byte
  opcSha : Byte
  shaStart : Byte
  shaUpdate : Byte
  shaEnd : Byte
  libSleepOnError : Bool
  deriving DecidableEq, Repr

/-- `POLY` (R8, R141). -/
abbrev Config.poly : Word16 := 0x8005#16
/-- `CRC_INIT` (R8, R143). -/
abbrev Config.crcInit : Word16 := 0x0000#16
/-- `WAKE_DEVADDR` (R8, R201). -/
abbrev Config.wakeDevaddr : Byte := 0x00#8
/-- `REG0` (R8). -/
abbrev Config.reg0 : Byte := 0x00#8
/-- `SLEEP_BYTE` (R8, R206). -/
abbrev Config.sleepByte : Byte := 0x01#8
/-- `IDLE_BYTE` (R8, R208). -/
abbrev Config.idleByte : Byte := 0x02#8
/-- `READ_P1` (R8, R241). -/
abbrev Config.readP1 : Byte := 0x80#8
/-- `SELFTEST_P1` (R8, R247). -/
abbrev Config.selftestP1 : Byte := 0x3B#8
/-- `MIN_RESP` (R8, R165). -/
abbrev Config.minResp : Nat := 4
/-- `MIN_COUNT` (R8, R102): the bytes of a Command Frame beside its data. -/
abbrev Config.minCount : Nat := 7
/-- `MAX_DATA` (R8, R104). -/
abbrev Config.maxData : Nat := 248
/-- `BLOCK` (R8, R255). -/
abbrev Config.block : Nat := 64

/-- `LIB_SLEEP_ON_ERROR` (R8, R245, D24): `OPEN` in the spec, so a FREE VALUE, log 6. It has no body: nothing in Lean
can prove which of the two it is, and a claim holds for both. -/
opaque Config.libSleepOnError : Bool

end Sys2Proof
end

