-- ==== Sys2Proof/Machine/Defaults.lean ====
section
/-! DEFINITION. The default values of the build-time parameters and of the two writable configuration registers (R8,
R46). PRESUMED where the spec marks them as general knowledge (93_implementation_defined.md G1 to G6), log 5. -/

namespace Sys2Proof

/-- The default `STATUS_MAP` (R181, D14). -/
def defaultStatusMap : StatusMap where
  parseError := 0x03#8
  eccFault := 0x05#8
  selfTestError := 0x07#8
  healthTestError := 0x08#8
  executionError := 0x0F#8
  afterWake := 0x11#8
  watchdog := 0xEE#8
  communicationError := 0xFF#8

/-- The default `ST_BITS` (R248, D22). -/
def defaultStBits : StBits where
  aes := 4
  ecdh := 3
  ecdsaSign := 2
  ecdsaVerify := 1
  rngDrbg := 0

/-- The default parameters (R8); `LIB_SLEEP_ON_ERROR` has no default and is the free value (D24). -/
def defaultParams : Params where
  statusMap := defaultStatusMap
  stBits := defaultStBits
  opcRead := 0x02#8
  opcSelftest := 0x77#8
  opcSha := 0x47#8
  shaStart := 0x00#8
  shaUpdate := 0x01#8
  shaEnd := 0x02#8
  libSleepOnError := Config.libSleepOnError

/-- Default bus index (R36). -/
def defaultBus : Byte := 0x00#8
/-- Default device bus-address (R37). -/
def defaultDevaddr : Byte := 0x60#8
/-- `SETTLE_MS` (R38). -/
def settleMs : Word16 := 250#16
/-- `CMD_REG` (R39, D6). -/
def cmdReg : Byte := 0x03#8

end Sys2Proof
end

