-- ==== Sys2Proof/Machine/Crc.lean ====
section
/-! DEFINITION. The CRC unit as a pure function (40_checksum.md): the bit step, the order of bits and bytes, the output
form, and the comparison that makes the unit a validator. -/

namespace Sys2Proof

/-- The bit step of R141: bit 15 is taken before the shift, the polynomial is xored in after it. -/
def crcBit (reg : Word16) (dataBit : Bool) : Word16 :=
  if dataBit != reg.getLsbD 15 then (reg <<< 1) ^^^ Config.poly else reg <<< 1

/-- The bits of a byte in the order the CRC unit consumes them, least significant first (R142, R73). -/
def bitsLsbFirst (b : Byte) : List Bool :=
  [b.getLsbD 0, b.getLsbD 1, b.getLsbD 2, b.getLsbD 3, b.getLsbD 4, b.getLsbD 5, b.getLsbD 6, b.getLsbD 7]

/-- The bit steps of R141 over a bit sequence. It branches on each step's comparison before it goes on (so that it
evaluates step by step); `crcBits_eq_foldl` says that it is the repeated `crcBit`. -/
def crcBits : Word16 → List Bool → Word16
  | reg, [] => reg
  | reg, d :: ds =>
    if d != reg.getLsbD 15 then crcBits ((reg <<< 1) ^^^ Config.poly) ds else crcBits (reg <<< 1) ds

/-- The register after all bytes of `s`, from zero, first byte first (R142, R143). -/
def crcReg (s : Bytes) : Word16 := crcBits Config.crcInit (s.flatMap bitsLsbFirst)

/-- The output form `[reg[7:0], reg[15:8]]`, low byte first (R143, R72). -/
def crcOut (reg : Word16) : Bytes := [reg.extractLsb' 0 8, reg.extractLsb' 8 8]

/-- `crc16(s)` (R144). -/
def crc16 (s : Bytes) : Bytes := crcOut (crcReg s)

/-- `buf[0 : L-2]`: everything but the last two bytes (R146, R166). -/
def frameBody (buf : Bytes) : Bytes := buf.take (buf.length - 2)

/-- `buf[L-2 : L]`: the last two bytes (R146, R166). -/
def frameCheckBytes (buf : Bytes) : Bytes := buf.drop (buf.length - 2)

/-- `crcchk(buf)` (R146): both bytes equal, in order. -/
def crcOk (buf : Bytes) : Bool := crc16 (frameBody buf) == frameCheckBytes buf

end Sys2Proof
end

