-- ==== Sys2Proof/Machine/Operands.lean ====
section
/-! DEFINITION. Operand assembly (30_encoding.md R120) and the texts of the command library as pure functions: param2
from a number, hash blocks, slices, hexadecimal, the self-test verdicts. -/

namespace Sys2Proof

/-- `P2[0]` of a number `n`: the low byte, first (R22). -/
def p2Low (n : Nat) : Byte := BitVec.ofNat 8 (n % 256)

/-- `P2[1]` of a number `n` (R22). -/
def p2High (n : Nat) : Byte := BitVec.ofNat 8 (n / 256)

/-- `payload = buf[1 : L-2]` (R168); for a 4-byte frame it is the one byte `buf[1]` (R167). -/
def payloadOf (buf : Bytes) : Bytes := (buf.drop 1).take (buf.length - 3)

/-- The number of full 64-byte blocks of a message (R255). -/
def blockCount (msg : Bytes) : Nat := msg.length / Config.block

/-- Block `i` of a message, `msg[64*i : 64*i + 64]` (R255). -/
def hashBlock (msg : Bytes) (i : Nat) : Bytes := (msg.drop (Config.block * i)).take Config.block

/-- The trailing part `msg[64*nb : n]` (R255). -/
def hashTail (msg : Bytes) : Bytes := msg.drop (Config.block * blockCount msg)

/-- The trailing count `r = n mod 64` (R255). -/
def tailCount (msg : Bytes) : Nat := msg.length % Config.block

/-- One lower-case hexadecimal digit (R10, D23). -/
def hexDigit (n : Nat) : Char := "0123456789abcdef".toList.getD n '0'

/-- `hex(s)`: two lower-case digits a byte, first byte first, no separator (R10). -/
def hexText : Bytes → Text
  | [] => []
  | b :: bs => hexDigit (b.toNat / 16) :: hexDigit (b.toNat % 16) :: hexText bs

/-- The value of one hexadecimal character, either case (R262). -/
def hexNibble (c : Byte) : Option Nat :=
  let n := c.toNat
  if 0x30 ≤ n ∧ n ≤ 0x39 then some (n - 0x30)
  else if 0x61 ≤ n ∧ n ≤ 0x66 then some (n - 0x61 + 10)
  else if 0x41 ≤ n ∧ n ≤ 0x46 then some (n - 0x41 + 10)
  else none

/-- `hexdecode(text)` (R262): an even number of hexadecimal characters, first character the high nibble. -/
def hexDecode : Bytes → Option Bytes
  | [] => some []
  | [_] => none
  | hi :: lo :: rest =>
    match hexNibble hi, hexNibble lo, hexDecode rest with
    | some h, some l, some bs => some (BitVec.ofNat 8 (16 * h + l) :: bs)
    | _, _, _ => none

/-- `serial = payload[0:4] ‖ payload[8:13]` (R242). -/
def serialOf (p : Bytes) : Bytes := p.take 4 ++ (p.drop 8).take 5

/-- `revision = payload[4:8]` (R242). -/
def revisionOf (p : Bytes) : Bytes := (p.drop 4).take 4

/-- The output text of IDREAD (R243). -/
def idreadText (p : Bytes) : Text :=
  "serial:0x".toList ++ hexText (serialOf p) ++ " revision:0x".toList ++ hexText (revisionOf p)

/-- The mask bit of a capability (R248): SHA is bit 5, the other positions are `ST_BITS`. -/
def capabilityBit (b : StBits) : Capability → Nat
  | .sha => 5
  | .aes => b.aes.val
  | .ecdh => b.ecdh.val
  | .ecdsaSign => b.ecdsaSign.val
  | .ecdsaVerify => b.ecdsaVerify.val
  | .rngDrbg => b.rngDrbg.val

/-- The name string of a capability (R248). -/
def capabilityName : Capability → Text
  | .sha => "SHA".toList
  | .aes => "AES".toList
  | .ecdh => "ECDH".toList
  | .ecdsaSign => "ECDSA-Sign".toList
  | .ecdsaVerify => "ECDSA-Verify".toList
  | .rngDrbg => "RNG-DRBG".toList

/-- Whether the mask says that the capability failed: bit set = FAILED (R248). -/
def capabilityFailed (b : StBits) (mask : Byte) (c : Capability) : Bool := mask.getLsbD (capabilityBit b c)

/-- One item of the self-test report: name, colon, verdict, one trailing space (R249). -/
def reportItem (b : StBits) (mask : Byte) (c : Capability) : Text :=
  capabilityName c ++ ":".toList ++ (if capabilityFailed b mask c then "FAIL".toList else "PASS".toList) ++ " ".toList

/-- The report order (R248). -/
def reportOrder : List Capability := [.sha, .aes, .ecdh, .ecdsaSign, .ecdsaVerify, .rngDrbg]

/-- The output text of SELFTEST (R247, R249). -/
def selftestText (b : StBits) (mask : Byte) : Text := reportOrder.flatMap (reportItem b mask)

/-- The output text of SHA256 (R260). -/
def shaText (p : Bytes) : Text := "SHA256 HexDigest: ".toList ++ hexText p

end Sys2Proof
end

