-- ==== Sys2Proof/Syntax.lean ====
section
/-! DEFINITION. The operations and encodings of AFC: one constructor for each row of spec/opcode_table.json. -/

namespace Sys2Proof

/-- One constructor per row of the operation table. `p2a`, `p2b` are `P2[0]`, `P2[1]` in wire order (R22). -/
inductive Instr where
  -- HOSTREQ: the host operations of R126
  /-- `CRC16 s` (R144). -/
  | crc16 (s : Bytes)
  /-- `CRCCHK buf` (R146). -/
  | crcchk (buf : Bytes)
  /-- `ENCODE opc p1 p2 data` (R160). -/
  | encode (opc p1 p2a p2b : Byte) (data : Bytes)
  /-- `VERIFY buf` (R164). -/
  | verify (buf : Bytes)
  /-- `STDEC b` (R180). -/
  | stdec (b : Byte)
  /-- `WAKE` (R200). -/
  | wake
  /-- `SLEEP` (R206). -/
  | sleep
  /-- `IDLE` (R208). -/
  | idle
  /-- `EXECUTE` with `w` = wrapInSession (R220). -/
  | execute (w : Bool) (opc p1 p2a p2b : Byte) (data : Bytes)
  /-- `IDREAD` (R241). -/
  | idread
  /-- `SELFTEST` (R247). -/
  | selftest
  /-- `SHA256` with `h` = the text is hexadecimal (R256). -/
  | sha256 (h : Bool) (text : Bytes)
  -- HOSTREQ: the reserved operation codes of R130, with whatever flags and operand bytes come with them
  /-- op code `0x0`. -/
  | reservedOp0 (flags : BitVec 4) (operands : Bytes)
  /-- op code `0xD`. -/
  | reservedOpD (flags : BitVec 4) (operands : Bytes)
  /-- op code `0xE`. -/
  | reservedOpE (flags : BitVec 4) (operands : Bytes)
  /-- op code `0xF`. -/
  | reservedOpF (flags : BitVec 4) (operands : Bytes)
  -- CMDFRAME: the Command Frames of R101 and R105
  /-- Any Command Frame (R160). -/
  | cmdGeneric (opc p1 p2a p2b : Byte) (data : Bytes)
  /-- `READ_ID` (R241). -/
  | readId
  /-- `SELFTEST_ALL` (R247). -/
  | selftestAll
  /-- `SHA_START` (R257). -/
  | shaStart
  /-- `SHA_UPDATE` with its 64 bytes (R258). -/
  | shaUpdate (block : Bytes)
  /-- `SHA_END` with its 0 to 63 trailing bytes (R259). -/
  | shaEnd (tail : Bytes)
  -- RESPFRAME: the Response Frames of R110 with a matching checksum
  /-- A Response Frame of exactly 4 bytes (R113, R167). -/
  | respStatus (count status : Byte)
  /-- A Response Frame of more than 4 bytes (R113, R168). -/
  | respData (count : Byte) (payload : Bytes)
  -- CTRLWR: the one-byte control writes of R118
  /-- `WAKE_WR` (R201). -/
  | wakeWr
  /-- `SLEEP_WR` (R206). -/
  | sleepWr
  /-- `IDLE_WR` (R208). -/
  | idleWr
  /-- `TRIG_WR` (R226). -/
  | trigWr
  -- STATUSBYTE: the status byte of a 4-byte response (R181, R182)
  | statusSuccess
  | statusChecksumOrVerifyMiscompare
  | statusParseError
  | statusEccFault
  | statusSelfTestError
  | statusHealthTestError
  | statusExecutionError
  | statusAfterWakeBeforeFirstCommand
  | statusWatchdogExpiringSoon
  | statusCommunicationError
  | statusUnknown (b : Byte)
  -- STMASK: one failed capability of the self-test mask, with the whole mask byte (R248)
  | stFailSha (mask : Byte)
  | stFailAes (mask : Byte)
  | stFailEcdh (mask : Byte)
  | stFailEcdsaSign (mask : Byte)
  | stFailEcdsaVerify (mask : Byte)
  | stFailRngDrbg (mask : Byte)
  deriving DecidableEq, Repr

end Sys2Proof
end

