-- ==== Sys2Proof/Machine/Frame.lean ====
section
/-! DEFINITION. The packet framer as pure functions (41_packet_codec.md): the Command Frame of R101, which row of the
operation table a Command Frame is (R105), and the checks on a received buffer in their order (R164, R284). -/

namespace Sys2Proof

/-- The count byte `7 + N` (R102); for `N` up to 248 it does not wrap (R16 (b)). -/
def countByte (n : Nat) : Byte := BitVec.ofNat 8 (Config.minCount + n)

/-- The covered part of a Command Frame, `count ‖ opcode ‖ param1 ‖ param2 ‖ data` (R101, R103). -/
def commandBody (opc p1 p2a p2b : Byte) (data : Bytes) : Bytes :=
  [countByte data.length, opc, p1, p2a, p2b] ++ data

/-- The whole Command Frame (R101, R160). -/
def commandFrame (opc p1 p2a p2b : Byte) (data : Bytes) : Bytes :=
  commandBody opc p1 p2a p2b data ++ crc16 (commandBody opc p1 p2a p2b data)

/-- The row of the operation table a Command Frame with these fields is: one of the five frames of R105 under the
parameters, else the generic row. -/
def classifyCommand (par : Params) (opc p1 p2a p2b : Byte) (data : Bytes) : Instr :=
  if opc = par.opcRead ∧ p1 = Config.readP1 ∧ p2a = 0#8 ∧ p2b = 0#8 ∧ data = [] then .readId
  else if opc = par.opcSelftest ∧ p1 = Config.selftestP1 ∧ p2a = 0#8 ∧ p2b = 0#8 ∧ data = [] then .selftestAll
  else if opc = par.opcSha ∧ p1 = par.shaStart ∧ p2a = 0#8 ∧ p2b = 0#8 ∧ data = [] then .shaStart
  else if opc = par.opcSha ∧ p1 = par.shaUpdate ∧ p2a = 0x40#8 ∧ p2b = 0#8 ∧ data.length = Config.block then
    .shaUpdate data
  else if opc = par.opcSha ∧ p1 = par.shaEnd ∧ p2a = p2Low data.length ∧ p2b = 0#8 ∧ data.length < Config.block then
    .shaEnd data
  else .cmdGeneric opc p1 p2a p2b data

/-- What the checks of `verify` find in a received buffer, in the order of R284. -/
inductive FrameCheck where
  | malformed
  | badChecksum
  | status (b : Byte)
  | data (payload : Bytes)
  deriving DecidableEq, Repr

/-- The checks of R164 up to the status interpretation: length (R165), checksum (R166), then exactly 4 bytes (R167) or
more (R168). The count byte is not compared with the length (R112). -/
def checkResponse (buf : Bytes) : FrameCheck :=
  if buf.length < Config.minResp then .malformed
  else if crcOk buf = false then .badChecksum
  else if buf.length = Config.minResp then .status (buf.getD 1 0#8)
  else .data (payloadOf buf)

end Sys2Proof
end

