-- ==== Sys2Proof/Machine/Std.lean ====
section
/-! DEFINITION. The status decoder as pure functions (42_status_decoder.md): byte to enumeration, escalation, reason
texts, the register index, and what every value of `STATUS_MAP` satisfies. -/

namespace Sys2Proof

/-- The byte value of a known status (R181); `unknown` has none. -/
def statusByte (m : StatusMap) : Status → Option Byte
  | .success => some 0x00#8
  | .checksumOrVerifyMiscompare => some 0x01#8
  | .parseError => some m.parseError
  | .eccFault => some m.eccFault
  | .selfTestError => some m.selfTestError
  | .healthTestError => some m.healthTestError
  | .executionError => some m.executionError
  | .afterWakeBeforeFirstCommand => some m.afterWake
  | .watchdogExpiringSoon => some m.watchdog
  | .communicationError => some m.communicationError
  | .unknown => none

/-- `stdec(b)` (R180): the name of the row of R181 whose byte value is `b`, else `unknown`. -/
def stdec (m : StatusMap) (b : Byte) : Status :=
  if b = 0x00#8 then .success
  else if b = 0x01#8 then .checksumOrVerifyMiscompare
  else if b = m.parseError then .parseError
  else if b = m.eccFault then .eccFault
  else if b = m.selfTestError then .selfTestError
  else if b = m.healthTestError then .healthTestError
  else if b = m.executionError then .executionError
  else if b = m.afterWake then .afterWakeBeforeFirstCommand
  else if b = m.watchdog then .watchdogExpiringSoon
  else if b = m.communicationError then .communicationError
  else .unknown

/-- `escalates(b)` (R183): the test is on the numeric byte. -/
def escalates (b : Byte) : Bool := b != 0x00#8 && (b.toNat ≤ 0x0F || b == 0xFF#8)

/-- The enumeration index, the value of the `STATUS` register (R181, R35). -/
def statusIndex : Status → Nat
  | .success => 0
  | .checksumOrVerifyMiscompare => 1
  | .parseError => 2
  | .eccFault => 3
  | .selfTestError => 4
  | .healthTestError => 5
  | .executionError => 6
  | .afterWakeBeforeFirstCommand => 7
  | .watchdogExpiringSoon => 8
  | .communicationError => 9
  | .unknown => 10

/-- The reason texts of R181. Two are the source's; the others are the spec's own (D15). -/
def reasonText : Status → Text
  | .success => "success".toList
  | .checksumOrVerifyMiscompare => "checkmac or verify miscompare".toList
  | .parseError => "parse error".toList
  | .eccFault => "ecc fault".toList
  | .selfTestError => "self test error".toList
  | .healthTestError => "health test error".toList
  | .executionError => "execution error".toList
  | .afterWakeBeforeFirstCommand => "after wake, prior to first command".toList
  | .watchdogExpiringSoon => "watchdog about to expire".toList
  | .communicationError => "crc or other communication error".toList
  | .unknown => []

/-- The ten byte values of the known codes, in the order of R181. -/
def knownBytes (m : StatusMap) : Bytes :=
  [0x00#8, 0x01#8, m.parseError, m.eccFault, m.selfTestError, m.healthTestError, m.executionError, m.afterWake,
    m.watchdog, m.communicationError]

/-- What any value of `STATUS_MAP` satisfies: R184 (c), (d), (e); (a) and (b) hold by the type. -/
def statusMapValid (m : StatusMap) : Bool :=
  decide (knownBytes m).Nodup && !(knownBytes m).contains 0x42#8 &&
    decide (0x0F < m.afterWake.toNat) && m.afterWake != 0xFF#8

end Sys2Proof
end

