-- ==== Sys2Proof/WellFormed.lean ====
section
/-! DEFINITION. Which terms of `Instr` are operations or encodings the spec has: operand counts and sizes (R126, R130),
canonical frames (R105, R110), status bytes (R181) and mask bits (R248). -/

namespace Sys2Proof

/-- The operand conditions of each row, under the build-time parameters. -/
def wellFormed (par : Params) : Instr → Bool
  | .crc16 _ => true
  | .crcchk buf => 2 ≤ buf.length
  | .encode _ _ _ _ data => data.length ≤ Config.maxData
  | .verify _ => true
  | .stdec _ => true
  | .wake => true
  | .sleep => true
  | .idle => true
  | .execute _ _ _ _ _ data => data.length ≤ Config.maxData
  | .idread => true
  | .selftest => true
  | .sha256 _ _ => true
  | .reservedOp0 _ _ => true
  | .reservedOpD _ _ => true
  | .reservedOpE _ _ => true
  | .reservedOpF _ _ => true
  | .cmdGeneric opc p1 p2a p2b data =>
    data.length ≤ Config.maxData && classifyCommand par opc p1 p2a p2b data == .cmdGeneric opc p1 p2a p2b data
  | .readId => classifyCommand par par.opcRead Config.readP1 0#8 0#8 [] == .readId
  | .selftestAll => classifyCommand par par.opcSelftest Config.selftestP1 0#8 0#8 [] == .selftestAll
  | .shaStart => classifyCommand par par.opcSha par.shaStart 0#8 0#8 [] == .shaStart
  | .shaUpdate block =>
    block.length == Config.block && classifyCommand par par.opcSha par.shaUpdate 0x40#8 0#8 block == .shaUpdate block
  | .shaEnd tail =>
    decide (tail.length < Config.block) &&
      classifyCommand par par.opcSha par.shaEnd (p2Low tail.length) 0#8 tail == .shaEnd tail
  | .respStatus _ _ => true
  | .respData _ payload => 2 ≤ payload.length && payload.length ≤ 252
  | .wakeWr => true
  | .sleepWr => true
  | .idleWr => true
  | .trigWr => true
  | .statusSuccess => true
  | .statusChecksumOrVerifyMiscompare => true
  | .statusParseError => stdec par.statusMap par.statusMap.parseError == .parseError
  | .statusEccFault => stdec par.statusMap par.statusMap.eccFault == .eccFault
  | .statusSelfTestError => stdec par.statusMap par.statusMap.selfTestError == .selfTestError
  | .statusHealthTestError => stdec par.statusMap par.statusMap.healthTestError == .healthTestError
  | .statusExecutionError => stdec par.statusMap par.statusMap.executionError == .executionError
  | .statusAfterWakeBeforeFirstCommand =>
    stdec par.statusMap par.statusMap.afterWake == .afterWakeBeforeFirstCommand
  | .statusWatchdogExpiringSoon => stdec par.statusMap par.statusMap.watchdog == .watchdogExpiringSoon
  | .statusCommunicationError => stdec par.statusMap par.statusMap.communicationError == .communicationError
  | .statusUnknown b => stdec par.statusMap b == .unknown
  | .stFailSha mask => capabilityFailed par.stBits mask .sha
  | .stFailAes mask => capabilityFailed par.stBits mask .aes
  | .stFailEcdh mask => capabilityFailed par.stBits mask .ecdh
  | .stFailEcdsaSign mask => capabilityFailed par.stBits mask .ecdsaSign
  | .stFailEcdsaVerify mask => capabilityFailed par.stBits mask .ecdsaVerify
  | .stFailRngDrbg mask => capabilityFailed par.stBits mask .rngDrbg

end Sys2Proof
end

