-- ==== Sys2Proof/Decode.lean ====
section
/-! DEFINITION. The decoder, total on any bytes and rejecting by name, and the encoder written from the same tables
(30_encoding.md). An encoding is read on the channel that carries it: the host's request channel (R126), the bus with a
Command Frame (R101), a Response Frame (R110) or a one-byte control write (R118), the status byte of a 4-byte response
(R181), or the self-test mask (R248). -/

namespace Sys2Proof

/-- The channel an encoding stands on. The four tables of R101, R110, R118, R126 and the two byte tables use the same
bytes for different things, so bytes alone do not name a row. -/
inductive Channel where
  | hostRequest
  | commandFrame
  | responseFrame
  | controlWrite (loc : BusLoc)
  | statusByte
  | selfTestMask (c : Capability)
  deriving DecidableEq, Repr

/-- Why bytes are no encoding of any row. -/
inductive Reject where
  /-- A request without a header byte (R126). -/
  | emptyRequest
  /-- A flag bit set that R126 shows as 0 (R130). -/
  | reservedFlags
  /-- Fewer operand bytes than the operation needs, or not exactly one for STDEC (R130). -/
  | missingOperands
  /-- Operand bytes on an operation that takes none, or more than one for STDEC (R130). -/
  | unexpectedOperands
  /-- `len(data) > 248` (R104, R130). -/
  | dataTooLong
  /-- A Command Frame of fewer than 7 bytes (R102), or a Response Frame of fewer than 4 (R165). -/
  | frameTooShort
  /-- A Response Frame of more than 255 bytes (R111, the table's L = 5 to 255). -/
  | frameTooLong
  /-- A Command Frame whose count byte is not its length (R102). -/
  | countMismatch
  /-- The last two bytes are not the checksum of the rest (R103, R166). -/
  | checksumMismatch
  /-- No control write of R118 has this byte at this bus location. -/
  | noSuchControlWrite
  /-- Not exactly one byte on a one-byte channel. -/
  | notOneByte
  /-- The capability's bit is clear in the mask (R248). -/
  | maskBitClear
  deriving DecidableEq, Repr

/-! ### Host requests (R126, R130) -/

/-- `op = header[7:4]`. -/
def headerOp (h : Byte) : BitVec 4 := h.extractLsb' 4 4
/-- `flags = header[3:0]`. -/
def headerFlags (h : Byte) : BitVec 4 := h.extractLsb' 0 4
/-- The header byte of an operation code and flags. -/
def header (op flags : BitVec 4) : Byte := op ++ flags

/-- A request whose four flag bits the table shows as 0000. DESIGN CHOICE, log 36: a set flag is named before the operand
bytes are looked at. -/
def plainRequest (flags : BitVec 4) (r : Except Reject Instr) : Except Reject Instr :=
  if flags = 0#4 then r else .error .reservedFlags

/-- An operation that takes no operand bytes. -/
def noOperands (ops : Bytes) (i : Instr) : Except Reject Instr :=
  match ops with
  | [] => .ok i
  | _ :: _ => .error .unexpectedOperands

/-- The operand bytes `opc, p1, p2[0], p2[1], data...` of ENCODE and EXECUTE. -/
def commandOperands (ops : Bytes) (k : Byte → Byte → Byte → Byte → Bytes → Instr) : Except Reject Instr :=
  match ops with
  | opc :: p1 :: p2a :: p2b :: data =>
    if data.length ≤ Config.maxData then .ok (k opc p1 p2a p2b data) else .error .dataTooLong
  | _ => .error .missingOperands

/-- The operand byte of STDEC, exactly one. -/
def oneOperand (ops : Bytes) (k : Byte → Instr) : Except Reject Instr :=
  match ops with
  | [] => .error .missingOperands
  | [b] => .ok (k b)
  | _ :: _ :: _ => .error .unexpectedOperands

/-- The host request decoder (R126, R130). -/
def decodeRequest : Bytes → Except Reject Instr
  | [] => .error .emptyRequest
  | h :: ops =>
    let flags := headerFlags h
    match (headerOp h).toNat with
    | 0x0 => .ok (.reservedOp0 flags ops)
    | 0x1 => plainRequest flags (.ok (.crc16 ops))
    | 0x2 => plainRequest flags (if 2 ≤ ops.length then .ok (.crcchk ops) else .error .missingOperands)
    | 0x3 => plainRequest flags (commandOperands ops .encode)
    | 0x4 => plainRequest flags (.ok (.verify ops))
    | 0x5 => plainRequest flags (oneOperand ops .stdec)
    | 0x6 => plainRequest flags (noOperands ops .wake)
    | 0x7 => plainRequest flags (noOperands ops .sleep)
    | 0x8 => plainRequest flags (noOperands ops .idle)
    | 0x9 =>
      if flags &&& 0b1110#4 = 0#4 then commandOperands ops (.execute (flags.getLsbD 0)) else .error .reservedFlags
    | 0xA => plainRequest flags (noOperands ops .idread)
    | 0xB => plainRequest flags (noOperands ops .selftest)
    | 0xC => if flags &&& 0b1101#4 = 0#4 then .ok (.sha256 (flags.getLsbD 1) ops) else .error .reservedFlags
    | 0xD => .ok (.reservedOpD flags ops)
    | 0xE => .ok (.reservedOpE flags ops)
    | _ => .ok (.reservedOpF flags ops)

/-! ### Wire encodings -/

/-- The Command Frame decoder (R101 to R105): length, count byte, checksum, then the fields. -/
def decodeCommand (par : Params) (frame : Bytes) : Except Reject Instr :=
  match frame with
  | count :: opc :: p1 :: p2a :: p2b :: rest =>
    if rest.length < 2 then .error .frameTooShort
    else if Config.maxData < rest.length - 2 then .error .dataTooLong
    else if count ≠ countByte (rest.length - 2) then .error .countMismatch
    else if crcOk frame = false then .error .checksumMismatch
    else .ok (classifyCommand par opc p1 p2a p2b (rest.take (rest.length - 2)))
  | _ => .error .frameTooShort

/-- The Response Frame decoder (R110, R113): the checks of R165 and R166, then 4 bytes or more. -/
def decodeResponse (buf : Bytes) : Except Reject Instr :=
  if 255 < buf.length then .error .frameTooLong
  else
    match checkResponse buf with
    | .malformed => .error .frameTooShort
    | .badChecksum => .error .checksumMismatch
    | .status b => .ok (.respStatus (buf.getD 0 0#8) b)
    | .data p => .ok (.respData (buf.getD 0 0#8) p)

/-- The control write at a bus location (R118). -/
def decodeControl (loc : BusLoc) (b : Byte) : Except Reject Instr :=
  match loc with
  | .wakeReg0 => if b = 0x00#8 then .ok .wakeWr else .error .noSuchControlWrite
  | .devReg0 => if b = 0x00#8 then .ok .trigWr else .error .noSuchControlWrite
  | .devCommand =>
    if b = Config.sleepByte then .ok .sleepWr
    else if b = Config.idleByte then .ok .idleWr
    else .error .noSuchControlWrite

/-- The row of a status byte (R181, R182); every byte has one. -/
def decodeStatus (par : Params) (b : Byte) : Instr :=
  match stdec par.statusMap b with
  | .success => .statusSuccess
  | .checksumOrVerifyMiscompare => .statusChecksumOrVerifyMiscompare
  | .parseError => .statusParseError
  | .eccFault => .statusEccFault
  | .selfTestError => .statusSelfTestError
  | .healthTestError => .statusHealthTestError
  | .executionError => .statusExecutionError
  | .afterWakeBeforeFirstCommand => .statusAfterWakeBeforeFirstCommand
  | .watchdogExpiringSoon => .statusWatchdogExpiringSoon
  | .communicationError => .statusCommunicationError
  | .unknown => .statusUnknown b

/-- The mask row of a capability. -/
def maskRow (c : Capability) (mask : Byte) : Instr :=
  match c with
  | .sha => .stFailSha mask
  | .aes => .stFailAes mask
  | .ecdh => .stFailEcdh mask
  | .ecdsaSign => .stFailEcdsaSign mask
  | .ecdsaVerify => .stFailEcdsaVerify mask
  | .rngDrbg => .stFailRngDrbg mask

/-- A channel that carries exactly one byte. -/
def oneByte (bytes : Bytes) (k : Byte → Except Reject Instr) : Except Reject Instr :=
  match bytes with
  | [b] => k b
  | _ => .error .notOneByte

/-- The decoder: the row that `bytes` are on the channel `ch`, or why they are none. Total. -/
def decode (par : Params) (ch : Channel) (bytes : Bytes) : Except Reject Instr :=
  match ch with
  | .hostRequest => decodeRequest bytes
  | .commandFrame => decodeCommand par bytes
  | .responseFrame => decodeResponse bytes
  | .controlWrite loc => oneByte bytes (decodeControl loc)
  | .statusByte => oneByte bytes fun b => .ok (decodeStatus par b)
  | .selfTestMask c =>
    oneByte bytes fun b => if capabilityFailed par.stBits b c then .ok (maskRow c b) else .error .maskBitClear

/-! ### The encoder -/

/-- The channel each row's encoding stands on. -/
def channelOf : Instr → Channel
  | .crc16 _ => .hostRequest
  | .crcchk _ => .hostRequest
  | .encode _ _ _ _ _ => .hostRequest
  | .verify _ => .hostRequest
  | .stdec _ => .hostRequest
  | .wake => .hostRequest
  | .sleep => .hostRequest
  | .idle => .hostRequest
  | .execute _ _ _ _ _ _ => .hostRequest
  | .idread => .hostRequest
  | .selftest => .hostRequest
  | .sha256 _ _ => .hostRequest
  | .reservedOp0 _ _ => .hostRequest
  | .reservedOpD _ _ => .hostRequest
  | .reservedOpE _ _ => .hostRequest
  | .reservedOpF _ _ => .hostRequest
  | .cmdGeneric _ _ _ _ _ => .commandFrame
  | .readId => .commandFrame
  | .selftestAll => .commandFrame
  | .shaStart => .commandFrame
  | .shaUpdate _ => .commandFrame
  | .shaEnd _ => .commandFrame
  | .respStatus _ _ => .responseFrame
  | .respData _ _ => .responseFrame
  | .wakeWr => .controlWrite .wakeReg0
  | .sleepWr => .controlWrite .devCommand
  | .idleWr => .controlWrite .devCommand
  | .trigWr => .controlWrite .devReg0
  | .statusSuccess => .statusByte
  | .statusChecksumOrVerifyMiscompare => .statusByte
  | .statusParseError => .statusByte
  | .statusEccFault => .statusByte
  | .statusSelfTestError => .statusByte
  | .statusHealthTestError => .statusByte
  | .statusExecutionError => .statusByte
  | .statusAfterWakeBeforeFirstCommand => .statusByte
  | .statusWatchdogExpiringSoon => .statusByte
  | .statusCommunicationError => .statusByte
  | .statusUnknown _ => .statusByte
  | .stFailSha _ => .selfTestMask .sha
  | .stFailAes _ => .selfTestMask .aes
  | .stFailEcdh _ => .selfTestMask .ecdh
  | .stFailEcdsaSign _ => .selfTestMask .ecdsaSign
  | .stFailEcdsaVerify _ => .selfTestMask .ecdsaVerify
  | .stFailRngDrbg _ => .selfTestMask .rngDrbg

/-- A Response Frame with its checksum (R110). -/
def responseFrame (count : Byte) (payload : Bytes) : Bytes := count :: payload ++ crc16 (count :: payload)

/-- The encoder: the bytes of an operation or encoding, from the same tables. -/
def encode (par : Params) : Instr → Bytes
  | .crc16 s => header 0x1#4 0#4 :: s
  | .crcchk buf => header 0x2#4 0#4 :: buf
  | .encode opc p1 p2a p2b data => header 0x3#4 0#4 :: opc :: p1 :: p2a :: p2b :: data
  | .verify buf => header 0x4#4 0#4 :: buf
  | .stdec b => [header 0x5#4 0#4, b]
  | .wake => [header 0x6#4 0#4]
  | .sleep => [header 0x7#4 0#4]
  | .idle => [header 0x8#4 0#4]
  | .execute w opc p1 p2a p2b data =>
    header 0x9#4 (if w then 0b0001#4 else 0b0000#4) :: opc :: p1 :: p2a :: p2b :: data
  | .idread => [header 0xA#4 0#4]
  | .selftest => [header 0xB#4 0#4]
  | .sha256 h text => header 0xC#4 (if h then 0b0010#4 else 0b0000#4) :: text
  | .reservedOp0 flags ops => header 0x0#4 flags :: ops
  | .reservedOpD flags ops => header 0xD#4 flags :: ops
  | .reservedOpE flags ops => header 0xE#4 flags :: ops
  | .reservedOpF flags ops => header 0xF#4 flags :: ops
  | .cmdGeneric opc p1 p2a p2b data => commandFrame opc p1 p2a p2b data
  | .readId => commandFrame par.opcRead Config.readP1 0#8 0#8 []
  | .selftestAll => commandFrame par.opcSelftest Config.selftestP1 0#8 0#8 []
  | .shaStart => commandFrame par.opcSha par.shaStart 0#8 0#8 []
  | .shaUpdate block => commandFrame par.opcSha par.shaUpdate 0x40#8 0#8 block
  | .shaEnd tail => commandFrame par.opcSha par.shaEnd (p2Low tail.length) 0#8 tail
  | .respStatus count b => responseFrame count [b]
  | .respData count payload => responseFrame count payload
  | .wakeWr => [0x00#8]
  | .sleepWr => [Config.sleepByte]
  | .idleWr => [Config.idleByte]
  | .trigWr => [0x00#8]
  | .statusSuccess => [0x00#8]
  | .statusChecksumOrVerifyMiscompare => [0x01#8]
  | .statusParseError => [par.statusMap.parseError]
  | .statusEccFault => [par.statusMap.eccFault]
  | .statusSelfTestError => [par.statusMap.selfTestError]
  | .statusHealthTestError => [par.statusMap.healthTestError]
  | .statusExecutionError => [par.statusMap.executionError]
  | .statusAfterWakeBeforeFirstCommand => [par.statusMap.afterWake]
  | .statusWatchdogExpiringSoon => [par.statusMap.watchdog]
  | .statusCommunicationError => [par.statusMap.communicationError]
  | .statusUnknown b => [b]
  | .stFailSha mask => [mask]
  | .stFailAes mask => [mask]
  | .stFailEcdh mask => [mask]
  | .stFailEcdsaSign mask => [mask]
  | .stFailEcdsaVerify mask => [mask]
  | .stFailRngDrbg mask => [mask]

/-! ### The table's words (log 10) -/

/-- The `n` bytes of a word, the first byte in bits 7 to 0. -/
def wordBytes (n w : Nat) : Bytes := (List.range n).map fun i => BitVec.ofNat 8 (w / 256 ^ i)

/-- The fewest operand bytes of a request with this header (R130). -/
def minOperands (h : Byte) : Nat :=
  match (headerOp h).toNat with
  | 0x2 => 2
  | 0x3 => 4
  | 0x5 => 1
  | 0x9 => 4
  | _ => 0

/-- The bytes of a host request whose header and first operand bytes are the word: zero operand bytes up to the fewest
its operation takes. -/
def requestOfWord (nbits w : Nat) : Bytes :=
  let bytes := wordBytes (nbits / 8) w
  bytes ++ List.replicate (1 + minOperands (bytes.headD 0#8) - bytes.length) 0#8

/-- The Command Frame whose `frame[0:5]` is the 40-bit word, `frame[0]` its most significant byte (the table's own
words): the opcode and parameters are the word's, the data are zero bytes as many as the count says, and the count and
the checksum, which the framer computes (R102, R103), are computed. -/
def commandOfWord (w : Nat) : Bytes :=
  commandFrame (BitVec.ofNat 8 (w / 256 ^ 3)) (BitVec.ofNat 8 (w / 256 ^ 2)) (BitVec.ofNat 8 (w / 256))
    (BitVec.ofNat 8 w) (List.replicate (w / 256 ^ 4 % 256 - Config.minCount) 0#8)

/-- The channel a word of the table is read on: 40 bits are a Command Frame, 32 a Response Frame, and any other word a
host request. -/
def channelOfWord (nbits : Nat) : Channel :=
  if nbits = 40 then .commandFrame else if nbits = 32 then .responseFrame else .hostRequest

/-- The bytes of a word of the table on its channel. -/
def bytesOfWord (nbits w : Nat) : Bytes :=
  match channelOfWord nbits with
  | .commandFrame => commandOfWord w
  | .responseFrame => wordBytes 4 w
  | _ => requestOfWord nbits w

/-- The instruction the decoder reads from a word of spec/opcode_table.json, under the default parameters. -/
def decodeTableWord (nbits w : Nat) : Option Instr :=
  match decode defaultParams (channelOfWord nbits) (bytesOfWord nbits w) with
  | .ok i => some i
  | .error _ => none

end Sys2Proof
end

