-- ==== Sys2Proof/Machine/State.lean ====
section
/-! DEFINITION. The machine's state as plain data (10_state.md), what it puts on the trace and delivers (00_scope.md R12,
R13), the reasons a step can stop, and the state right after power-on reset (R46). -/

namespace Sys2Proof.Machine

/-! ### The sequencer register (R28, R29). A field is `off` (0) when that unit is not active. -/

/-- `SEQ.OP`: the host operation in progress, by its code of R126. -/
inductive OpCode where
  | off
  | crc16
  | crcchk
  | encode
  | verify
  | stdec
  | wake
  | sleep
  | idle
  | execute
  | idread
  | selftest
  | sha256
  deriving DecidableEq, Repr

/-- `SEQ.L`: the Command Library step (R29). -/
inductive LStep where
  | off
  | lPrep
  | lExec
  | lUpdate
  | lEnd
  | lFormat
  | lSleep
  deriving DecidableEq, Repr

/-- `SEQ.X`: the Command Executor step (R29). -/
inductive XStep where
  | off
  | xWake
  | xArm
  | xEncode
  | xWrcmd
  | xSettle
  | xTrig
  | xRdlen
  | xRdfrm
  | xVerify
  | xExit
  deriving DecidableEq, Repr

/-- `SEQ.W`: the Power-State Controller step (R29). -/
inductive WStep where
  | off
  | wWrite
  | wSettle
  | wRead
  | wVerify
  | sWrite
  | iWrite
  deriving DecidableEq, Repr

/-- The sequencer register `SEQ`. -/
structure Seq where
  op : OpCode
  l : LStep
  x : XStep
  w : WStep
  deriving DecidableEq, Repr

/-- `SEQ = 0`: no operation in progress. -/
abbrev Seq.zero : Seq := ⟨.off, .off, .off, .off⟩

/-! ### Errors and flags -/

/-- The `ERR` register (R31, R281). -/
inductive ErrKind where
  | none
  | transportError
  | malformedFrame
  | checksumMismatch
  | unknownStatus
  | deviceError
  | wakeFailed
  | decodeError
  deriving DecidableEq, Repr

/-- An error with the information it carries (R280, R281). -/
inductive OpError where
  /-- The transport's error value, unchanged (R66). -/
  | transportError (e : BusErr)
  | malformedFrame
  | checksumMismatch
  /-- The status byte. -/
  | unknownStatus (b : Byte)
  /-- The status byte and its reason text (R183). -/
  | deviceError (b : Byte) (reason : Text)
  | wakeFailed
  | decodeError
  deriving DecidableEq, Repr

/-- The tracked Device Power State, `PWR` (R40). -/
inductive Power where
  | dormant
  | awake
  | idle
  deriving DecidableEq, Repr

/-! ### Outcomes, the trace, and the inputs -/

/-- The ok-result of an operation (R126). -/
inductive OkValue where
  | unit
  | bytes (b : Bytes)
  | bool (b : Bool)
  | payload (p : Bytes) (status : Option Status)
  | status (st : Status)
  | text (t : Text)
  deriving DecidableEq, Repr

/-- The outcome record of an accepted operation (R12, R127). `refused` and `fault` are the model's stops. -/
inductive OpOutcome where
  | ok (v : OkValue)
  | error (e : OpError)
  deriving DecidableEq, Repr

/-- The transport's answer to a BusWrite (R64). -/
inductive WrAnswer where
  | ok
  | err (e : BusErr)
  deriving DecidableEq, Repr

/-- The transport's answer to a BusRead (R65). Any length of bytes is admitted (U7), log 2. -/
inductive RdAnswer where
  | bytes (s : Bytes)
  | err (e : BusErr)
  deriving DecidableEq, Repr

/-- One entry of the trace (R13): a bus write or read with its answer, a settle delay, or the outcome that ends an
operation. -/
inductive Event where
  | busWrite (bus dev reg : Byte) (bytes : Bytes) (answer : WrAnswer)
  | busRead (bus dev reg : Byte) (n : Nat) (answer : RdAnswer)
  | delay (ms : Word16)
  | outcome (o : OpOutcome)
  deriving DecidableEq, Repr

/-- The control registers C0 to C8 of R41, as the register port names them (R132). -/
inductive CtrlReg where
  | cfgBus
  | cfgDevaddr
  | cfgSettle
  | cfgCmdreg
  | pwr
  | status
  | err
  | seq
  | ctrl
  deriving DecidableEq, Repr

/-- What `RegRead` returns: the register's value, or that `STATUS` has no value (R35, R132). -/
inductive PortReply where
  | value (v : Word16)
  | noValue
  deriving DecidableEq, Repr

/-- What the outside can do to AFC in one step: the host presents a request in one transaction (R126) or uses the register
port (R132), the transport answers a call (R64, R65), or nothing comes and AFC takes a step of its own, log 7. -/
inductive Input where
  | request (bytes : Bytes)
  | regRead (c : CtrlReg)
  | regWrite (c : CtrlReg) (v : Nat)
  | writeAnswer (a : WrAnswer)
  | readAnswer (a : RdAnswer)
  | pass
  deriving DecidableEq, Repr

/-! ### The state -/

/-- Everything the spec gives AFC, with the inputs still to come. -/
structure State where
  /-- G0, the chip opcode byte (R20). -/
  opc : Byte
  /-- G1, param1 (R20). -/
  p1 : Byte
  /-- G2, `P2[0]` (R22). -/
  p2a : Byte
  /-- G2, `P2[1]` (R22). -/
  p2b : Byte
  /-- G3, `len(data)` (R20). -/
  dlen : Byte
  /-- G4, the count byte (R20). -/
  cnt : Byte
  /-- G5, the frame-check accumulator (R21). -/
  crc : Word16
  /-- G6, the result-length byte (R23). -/
  rlen : Byte
  /-- G7, the raw status byte (R20). -/
  stb : Byte
  /-- G8, the index of the next hash block (R20). -/
  blk : Nat
  /-- C7, the sequencer register (R28). -/
  seq : Seq
  /-- C6 [3:0], the error kind (R31). -/
  err : ErrKind
  /-- C6 [15:8], the status byte of the error (R31). -/
  errInfo : Byte
  /-- The transport's error value beside `ERR` (R31, R66). -/
  errBus : BusErr
  /-- C8 [1], the scheduled Idle (R32). -/
  idlep : Bool
  /-- C8 [0], wrapInSession (R33). -/
  wrap : Bool
  /-- C8 [2], an operation is in progress (R34). -/
  busy : Bool
  /-- C5, the decoded status, or no value (R35). -/
  status : Option Status
  /-- C0, the bus index (R36). -/
  cfgBus : Byte
  /-- C1, the device bus-address (R37). -/
  cfgDevaddr : Byte
  /-- C2, the settle delay in milliseconds, read-only (R38). -/
  cfgSettle : Word16
  /-- C3, the command register's number, read-only (R39). -/
  cfgCmdreg : Byte
  /-- C4, the tracked power state (R40). -/
  pwr : Power
  /-- The variable data of the command being framed (R42). -/
  data : Bytes
  /-- The command frame (R42). -/
  txbuf : Bytes
  /-- The bytes of the response read (R42). -/
  rxbuf : Bytes
  /-- The hash message (R42). -/
  msg : Bytes
  /-- The operand `text` of a SHA256 request, from its load (R43) to `L_PREP`, which turns it into `MSG` (R256). -/
  hashText : Bytes
  /-- The operand `isHex` of a SHA256 request (R256), from its load to `L_PREP`. -/
  hashHex : Bool
  /-- The output text of a library operation, from L_FORMAT to its delivery (R241, R247, R256). -/
  text : Text
  /-- The build-time parameters (R8, R45), read-only, log 4. -/
  par : Params
  /-- Input: the transport's answers to the bus writes to come that are there already, log 1. -/
  wrAns : List WrAnswer
  /-- Input: the transport's answers to the bus reads to come that are there already, log 1. -/
  rdAns : List RdAnswer
  /-- Inputs still to come, one a step: what the host and the transport do (R126, R132, R336), log 7. -/
  inputs : List Input
  /-- The trace, oldest entry first (R13). -/
  trace : List Event
  /-- What the register port has returned, oldest first (R132). -/
  portReplies : List PortReply
  deriving DecidableEq, Repr

/-- Why the machine stops with a fault (R283, U11). All are SAFE: the model stops, so nothing can be proved of what
hardware does then. -/
inductive Fault where
  /-- The formatting step of IDREAD (payload shorter than 13 bytes, R242); the formatting step of SELFTEST on an empty
  payload, which `verify` never returns (R247). Safe. -/
  | shortPayload
  /-- The step X_RDLEN answered with zero bytes (R227). Safe. -/
  | noLengthByte
  /-- The sequencer at a value the table of R29 and the nesting of R28 do not produce (U11). Safe. -/
  | sequencerOutsideTable
  deriving DecidableEq, Repr

/-- Why a request or a register write is refused (R130): the spec gives it no meaning. All are SAFE: the model stops. The
spec writes `refused(reason)` and lists no reasons: these names are the model's, DESIGN CHOICE, log 36. -/
inductive Refusal where
  /-- No meaning in the model yet: raised by exec's arms only. Safe. -/
  | notModelled (mnemonic : String)
  /-- The request's bytes are no operation: raised by the request channel and by a term that is not well-formed. Safe. -/
  | badRequest (why : Reject)
  /-- An operation code of R130 that names no operation: raised by the four reserved rows. Safe. -/
  | reservedOperation
  /-- A request while BUSY = 1 (R34): raised by every host operation. Safe. -/
  | busy
  /-- A register-port write to a read-only register (R41): raised by the register port. Safe. -/
  | readOnlyRegister
  /-- A register-port write while BUSY = 1 (R41): raised by the register port. Safe. -/
  | registerWriteWhileBusy
  deriving DecidableEq, Repr

/-- What one sequencer step does: it completes, or it is not enabled (no operation, or a transport call without an
answer, R336), or it faults. -/
inductive SeqResult where
  | moved (s : State)
  | stay
  | fault (f : Fault)
  deriving DecidableEq, Repr

/-- Power-on reset (R46, R320). The model's own fields (inputs, trace, port replies, the output text, the operands of SHA256,
`errBus`) are empty or zero: DESIGN CHOICE, log 14. -/
def State.reset : State where
  opc := 0#8
  p1 := 0#8
  p2a := 0#8
  p2b := 0#8
  dlen := 0#8
  cnt := 0#8
  crc := 0#16
  rlen := 0#8
  stb := 0#8
  blk := 0
  seq := Seq.zero
  err := .none
  errInfo := 0#8
  errBus := 0
  idlep := false
  wrap := false
  busy := false
  status := Option.none
  cfgBus := defaultBus
  cfgDevaddr := defaultDevaddr
  cfgSettle := settleMs
  cfgCmdreg := cmdReg
  pwr := .dormant
  data := []
  txbuf := []
  rxbuf := []
  msg := []
  hashText := []
  hashHex := false
  text := []
  par := defaultParams
  wrAns := []
  rdAns := []
  inputs := []
  trace := []
  portReplies := []

end Sys2Proof.Machine
end

