-- ==== Sys2Proof/Machine/Flags.lean ====
section
/-! DEFINITION. Flags and register views: the error registers (R31, R281), and the 16-bit views of the control registers
that the register port shows (R41). -/

namespace Sys2Proof.Machine

/-- The numeric code of `ERR` (R281). -/
def errCode : ErrKind → BitVec 4
  | .none => 0
  | .transportError => 1
  | .malformedFrame => 2
  | .checksumMismatch => 3
  | .unknownStatus => 4
  | .deviceError => 5
  | .wakeFailed => 6
  | .decodeError => 7

/-- Write `ERR`, and the information the kind records (R31, R281). A kind that records none leaves `ERRINFO` as the
operation-start clear left it; for WakeFailed that is a choice, log 12. -/
def setError (e : OpError) (s : State) : State :=
  match e with
  | .transportError v => { s with err := .transportError, errBus := v }
  | .malformedFrame => { s with err := .malformedFrame }
  | .checksumMismatch => { s with err := .checksumMismatch }
  | .unknownStatus b => { s with err := .unknownStatus, errInfo := b }
  | .deviceError b _ => { s with err := .deviceError, errInfo := b }
  | .wakeFailed => { s with err := .wakeFailed }
  | .decodeError => { s with err := .decodeError }

/-- The error that the registers hold, with its information, or none (R281). The reason text of a DeviceError is that of
its status byte (R183). -/
def raisedError (s : State) : Option OpError :=
  match s.err with
  | .none => Option.none
  | .transportError => some (.transportError s.errBus)
  | .malformedFrame => some .malformedFrame
  | .checksumMismatch => some .checksumMismatch
  | .unknownStatus => some (.unknownStatus s.errInfo)
  | .deviceError => some (.deviceError s.errInfo (reasonText (stdec s.par.statusMap s.errInfo)))
  | .wakeFailed => some .wakeFailed
  | .decodeError => some .decodeError

/-- The 2-bit encoding of `PWR` (R40). -/
def powerCode : Power → BitVec 2
  | .dormant => 0
  | .awake => 1
  | .idle => 2

/-- The code of `SEQ.OP` (R126). -/
def opCode : OpCode → BitVec 4
  | .off => 0x0
  | .crc16 => 0x1
  | .crcchk => 0x2
  | .encode => 0x3
  | .verify => 0x4
  | .stdec => 0x5
  | .wake => 0x6
  | .sleep => 0x7
  | .idle => 0x8
  | .execute => 0x9
  | .idread => 0xA
  | .selftest => 0xB
  | .sha256 => 0xC

/-- The value of `SEQ.L` (R29). -/
def lCode : LStep → BitVec 4
  | .off => 0
  | .lPrep => 1
  | .lExec => 2
  | .lUpdate => 3
  | .lEnd => 4
  | .lFormat => 5
  | .lSleep => 6

/-- The value of `SEQ.X` (R29). -/
def xCode : XStep → BitVec 4
  | .off => 0
  | .xWake => 1
  | .xArm => 2
  | .xEncode => 3
  | .xWrcmd => 4
  | .xSettle => 5
  | .xTrig => 6
  | .xRdlen => 7
  | .xRdfrm => 8
  | .xVerify => 9
  | .xExit => 10

/-- The value of `SEQ.W` (R29). -/
def wCode : WStep → BitVec 4
  | .off => 0
  | .wWrite => 1
  | .wSettle => 2
  | .wRead => 3
  | .wVerify => 4
  | .sWrite => 5
  | .iWrite => 6

/-- The 16-bit `SEQ`: `OP` [15:12], `L` [11:8], `X` [7:4], `W` [3:0] (R28). -/
def seqBits (q : Seq) : Word16 := opCode q.op ++ lCode q.l ++ xCode q.x ++ wCode q.w

/-- The 16-bit view of C6: `ERR` [3:0], `ERRINFO` [15:8] (R41). -/
def errBits (s : State) : Word16 := s.errInfo ++ 0#4 ++ errCode s.err

/-- The 16-bit view of C8: `WRAP` [0], `IDLEP` [1], `BUSY` [2] (R41). -/
def ctrlBits (s : State) : Word16 :=
  0#13 ++ BitVec.ofBool s.busy ++ BitVec.ofBool s.idlep ++ BitVec.ofBool s.wrap

end Sys2Proof.Machine
end

