-- ==== Sys2Proof/Machine/Ops.lean ====
section
/-! DEFINITION. The operations every unit shares: clearing and loading registers (R43), the bus primitives (R64, R65,
R70), the delivery of an outcome (R291), how the sequencer enters and leaves its nested units (R28, R30), and raising an
error with its exit path (R290). -/

namespace Sys2Proof.Machine

/-! ### Clearing and loading (R43) -/

/-- The operation-start clear (R43): everything but the configuration, `PWR`, the parameters, the inputs and what has
been put on the trace or returned by the port. -/
def clearOperation (s : State) : State :=
  { s with
    opc := 0#8, p1 := 0#8, p2a := 0#8, p2b := 0#8, dlen := 0#8, cnt := 0#8, crc := 0#16, rlen := 0#8, stb := 0#8,
    blk := 0, err := .none, errInfo := 0#8, errBus := 0, idlep := false, wrap := false, status := none,
    data := [], txbuf := [], rxbuf := [], msg := [], hashText := [], hashHex := false, text := [] }

/-- Acceptance of a host request: the operation-start clear, `BUSY <- 1`, `SEQ.OP` set (R28, R34, R43). -/
def accept (op : OpCode) (s : State) : State :=
  { clearOperation s with busy := true, seq := ⟨op, .off, .off, .off⟩ }

/-- The exchange state that each EXECUTE inside a library operation clears again: `OPC` to `STB`, `IDLEP`, `TXBUF`,
`RXBUF` (R43). -/
def clearExchange (s : State) : State :=
  { s with
    opc := 0#8, p1 := 0#8, p2a := 0#8, p2b := 0#8, dlen := 0#8, cnt := 0#8, crc := 0#16, rlen := 0#8, stb := 0#8,
    idlep := false, txbuf := [], rxbuf := [] }

/-- Load the operands of the command being framed (R20, R42). -/
def loadOperands (opc p1 p2a p2b : Byte) (data : Bytes) (s : State) : State :=
  { s with opc := opc, p1 := p1, p2a := p2a, p2b := p2b, dlen := BitVec.ofNat 8 data.length, data := data }

/-- `TXBUF <- encode(opc, p1, p2, data)` on the operand registers: writes `CNT`, `CRC`, `TXBUF` (R160). -/
def encodeFrame (s : State) : State :=
  { s with
    cnt := countByte s.data.length
    crc := crcReg (commandBody s.opc s.p1 s.p2a s.p2b s.data)
    txbuf := commandFrame s.opc s.p1 s.p2a s.p2b s.data }

/-! ### The bus primitives. `none`: the transport has not answered (R336). -/

/-- `BusWrite(dev, reg, bytes)` on bus `CFG_BUS` (R64). -/
def busWrite (dev reg : Byte) (bytes : Bytes) (s : State) : Option (WrAnswer × State) :=
  match s.wrAns with
  | [] => none
  | a :: rest => some (a, { s with wrAns := rest, trace := s.trace ++ [.busWrite s.cfgBus dev reg bytes a] })

/-- `BusRead(dev, reg, n)` on bus `CFG_BUS` (R65). -/
def busRead (dev reg : Byte) (n : Nat) (s : State) : Option (RdAnswer × State) :=
  match s.rdAns with
  | [] => none
  | a :: rest => some (a, { s with rdAns := rest, trace := s.trace ++ [.busRead s.cfgBus dev reg n a] })

/-- `Delay(CFG_SETTLE)` (R70). -/
def settleDelay (s : State) : State := { s with trace := s.trace ++ [.delay s.cfgSettle] }

/-! ### Delivery of the outcome (R127, R291) -/

/-- Deliver an outcome: it ends the operation's part of the trace, `SEQ <- 0`, `BUSY <- 0`. -/
def deliver (o : OpOutcome) (s : State) : State :=
  { s with trace := s.trace ++ [.outcome o], busy := false, seq := Seq.zero }

/-- The ok-result of an operation that ran through the sequencer (R126). -/
def okValue (s : State) : OkValue :=
  match s.seq.op with
  | .execute => .payload (payloadOf s.rxbuf) none
  | .idread => .text s.text
  | .selftest => .text s.text
  | .sha256 => .text s.text
  | _ => .unit

/-- End the operation in progress with the error in `ERR`, or with its ok-result (R286, R291). -/
def endOperation (s : State) : State :=
  match raisedError s with
  | some e => deliver (.error e) s
  | none => deliver (.ok (okValue s)) s

/-! ### How the sequencer moves (R28, R30) -/

/-- The next executor step (R30); `off` stays `off`. -/
def xNext : XStep → XStep
  | .off => .off
  | .xWake => .xArm
  | .xArm => .xEncode
  | .xEncode => .xWrcmd
  | .xWrcmd => .xSettle
  | .xSettle => .xTrig
  | .xTrig => .xRdlen
  | .xRdlen => .xRdfrm
  | .xRdfrm => .xVerify
  | .xVerify => .xExit
  | .xExit => .off

/-- The next power-state step (R30); the steps that end their sequence go to `off`. -/
def wNext : WStep → WStep
  | .off => .off
  | .wWrite => .wSettle
  | .wSettle => .wRead
  | .wRead => .wVerify
  | .wVerify => .off
  | .sWrite => .off
  | .iWrite => .off

/-- The executor step completes: `SEQ.X` goes up by one (R30). -/
def advanceX (s : State) : State := { s with seq := { s.seq with x := xNext s.seq.x } }

/-- The power-state step completes: `SEQ.W` goes up by one (R30). -/
def advanceW (s : State) : State := { s with seq := { s.seq with w := wNext s.seq.w } }

/-- Go to `X_EXIT`; if the Idle is scheduled the idle write runs inside it (R230, R28), entered in the same change: DEDUCED,
log 15. -/
def enterExit (s : State) : State :=
  { s with seq := { s.seq with x := .xExit, w := if s.idlep then .iWrite else .off } }

/-- Go to `L_SLEEP`; the sleep write runs inside it (R244, R28). -/
def enterSleep (s : State) : State := { s with seq := { s.seq with l := .lSleep, x := .off, w := .sWrite } }

/-- Go to `L_FORMAT` (R29). -/
def enterFormat (s : State) : State := { s with seq := { s.seq with l := .lFormat, x := .off, w := .off } }

/-- Start one EXECUTE (R220): clear the exchange state, load the operands, `WRAP <- wrap`, `IDLEP <- 0`, and go to
`X_WAKE`, inside it to the wake write if `WRAP` (R221, R28). -/
def beginExecute (opc p1 p2a p2b : Byte) (data : Bytes) (wrap : Bool) (s : State) : State :=
  let s := loadOperands opc p1 p2a p2b data (clearExchange s)
  { s with wrap := wrap, seq := { s.seq with x := .xWake, w := if wrap then .wWrite else .off } }

/-- An EXECUTE issued by a library operation at library step `l`, always wrapped (R240). -/
def beginLibExecute (l : LStep) (opc p1 p2a p2b : Byte) (data : Bytes) (s : State) : State :=
  beginExecute opc p1 p2a p2b data true { s with seq := { s.seq with l := l } }

/-- `L_UPDATE` while a full block remains, else `L_END` (R258, R259). DESIGN CHOICE, log 35: with no full block left `SEQ.L`
does not stop at `L_UPDATE` on its way (R30 and the pseudocode of R256 pass through it, R28 wants `SEQ.X != 0` there). -/
def enterUpdate (s : State) : State :=
  if s.blk < blockCount s.msg then
    beginLibExecute .lUpdate s.par.opcSha s.par.shaUpdate (p2Low Config.block) (p2High Config.block)
      (hashBlock s.msg s.blk) s
  else
    beginLibExecute .lEnd s.par.opcSha s.par.shaEnd (p2Low (tailCount s.msg)) (p2High (tailCount s.msg))
      (hashTail s.msg) s

/-- What a library operation does after one of its EXECUTEs succeeded (R241, R247, R256). -/
def libNext (s : State) : SeqResult :=
  match s.seq.op, s.seq.l with
  | .idread, .lExec => .moved (enterFormat s)
  | .selftest, .lExec => .moved (enterFormat s)
  | .sha256, .lExec => .moved (enterUpdate s)
  | .sha256, .lUpdate => .moved (enterUpdate { s with blk := s.blk + 1 })
  | .sha256, .lEnd => .moved (enterFormat s)
  | _, _ => .fault .sequencerOutsideTable

/-- The error path of a library operation (R245): one Sleep or none, as `LIB_SLEEP_ON_ERROR` says. -/
def libError (s : State) : State := if s.par.libSleepOnError then enterSleep s else endOperation s

/-- `SEQ.X <- 0`: EXECUTE returns its result, which is the error in `ERR` or the payload (R220, R230), to the host or to
the library operation that issued it. -/
def leaveExecute (s : State) : SeqResult :=
  let s := { s with seq := { s.seq with x := .off, w := .off } }
  if s.seq.l = .off then .moved (endOperation s)
  else if s.err = .none then libNext s
  else .moved (libError s)

/-- RAISING AN ERROR (R290), the one exception entry: `ERR` and `ERRINFO` are written; then (a) outside an EXECUTE the
operation ends with the error, (b) in the wake of an EXECUTE that EXECUTE ends at once with no Idle, (c) in the body of
an EXECUTE control goes to `X_EXIT`; (d) a library operation takes its error path when its EXECUTE returns. -/
def raise (e : OpError) (s : State) : SeqResult :=
  let s := setError e s
  match s.seq.x with
  | .off => .moved (endOperation s)
  | .xWake => leaveExecute s
  | _ => .moved (enterExit s)

/-- A sequencer step as an instruction's meaning: a step that is not enabled leaves the machine where it is (R336). -/
def ofSeq (s : State) : SeqResult → Host.Outcome State Fault Refusal
  | .moved t => .next t
  | .stay => .next s
  | .fault f => .fault f

/-- A host operation is refused while another is in progress (R34, R130), before its operands are looked at (log 36). -/
def whenIdle (s : State) (k : Host.Outcome State Fault Refusal) : Host.Outcome State Fault Refusal :=
  if s.busy then .refused .busy else k

end Sys2Proof.Machine
end

