-- ==== Sys2Proof/Machine/Checksum.lean ====
section
/-! DEFINITION. The unit operations of the CRC unit (40_checksum.md): CRC16 and CRCCHK. -/

namespace Sys2Proof.Machine

/-- `CRC16` (R144): leaves the register in `CRC` and delivers its two output bytes. -/
def execCrc16 (bytes : Bytes) (s : State) : Host.Outcome State Fault Refusal :=
  whenIdle s <|
    let t := { accept .crc16 s with crc := crcReg bytes }
    .next (deliver (.ok (.bytes (crcOut t.crc))) t)

/-- `CRCCHK` (R146): leaves the register of the body in `CRC` and delivers the comparison. Fewer than 2 bytes are
refused (R130). -/
def execCrcchk (buf : Bytes) (s : State) : Host.Outcome State Fault Refusal :=
  whenIdle s <|
    if 2 ≤ buf.length then
      let t := { accept .crcchk s with crc := crcReg (frameBody buf) }
      .next (deliver (.ok (.bool (crcOut t.crc == frameCheckBytes buf))) t)
    else .refused (.badRequest .missingOperands)

end Sys2Proof.Machine
end

