-- ==== Sys2Proof/Machine/Framer.lean ====
section
/-! DEFINITION. The response side of the packet framer on the machine's registers (41_packet_codec.md R164 to R168): what
`verify` writes, and how its result goes on at the step that asked for it. -/

namespace Sys2Proof.Machine

/-- The result of `verify` (R164). -/
inductive VerifyResult where
  | ok (payload : Bytes) (status : Option Status)
  | error (e : OpError)
  deriving DecidableEq, Repr

/-- The result of the status interpretation for a byte that decodes to `st` (R167, R183): unknown before escalation. -/
def statusResult (st : Status) (b : Byte) : VerifyResult :=
  if st = .unknown then .error (.unknownStatus b)
  else if escalates b then .error (.deviceError b (reasonText st))
  else .ok [b] (some st)

/-- The registers the status interpretation writes: `STB`, `STATUS` (R164). -/
def writeStatus (st : Status) (b : Byte) (s : State) : State := { s with stb := b, status := some st }

/-- The registers `verify` writes (R164): `CRC` once the length check has passed, `STB` and `STATUS` for a 4-byte frame
with a good checksum. A frame of another length does not write `STATUS` (R164, R168). A 4-byte frame with a bad checksum
leaves it without a value (R35, program P5): DEDUCED, log 19. -/
def verifyWrites (s : State) : State :=
  match checkResponse s.rxbuf with
  | .malformed => s
  | .badChecksum =>
    { s with
      crc := crcReg (frameBody s.rxbuf), status := if s.rxbuf.length = Config.minResp then none else s.status }
  | .status b => writeStatus (stdec s.par.statusMap b) b { s with crc := crcReg (frameBody s.rxbuf) }
  | .data _ => { s with crc := crcReg (frameBody s.rxbuf) }

/-- The result of `verify(buf)` (R164, R284). -/
def verifyResult (m : StatusMap) (buf : Bytes) : VerifyResult :=
  match checkResponse buf with
  | .malformed => .error .malformedFrame
  | .badChecksum => .error .checksumMismatch
  | .status b => statusResult (stdec m b) b
  | .data p => .ok p none

/-- The wake has succeeded (R204, R210): `PWR <- Awake`; inside an EXECUTE the next step is `X_ARM`, else WAKE ends. -/
def wakeDone (s : State) : State :=
  let s := { s with pwr := .awake, seq := { s.seq with w := .off } }
  match s.seq.x with
  | .xWake => advanceX s
  | _ => if s.seq.op = .wake then endOperation s else s

/-- How a result of `verify` goes on: at `W_VERIFY` only the after-wake status succeeds and every other result is
WakeFailed (R204); at `X_VERIFY` an error is the EXECUTE's error and success goes to `X_EXIT` (R229); elsewhere it is
the result of the unit operation VERIFY (R164, R290 (a)). -/
def finishVerify (r : VerifyResult) (s : State) : SeqResult :=
  match s.seq.w, s.seq.x with
  | .wVerify, _ =>
    match r with
    | .ok _ (some .afterWakeBeforeFirstCommand) => .moved (wakeDone s)
    | _ => raise .wakeFailed s
  | _, .xVerify =>
    match r with
    | .ok _ _ => .moved (enterExit s)
    | .error e => raise e s
  | _, _ =>
    match r with
    | .ok p st => .moved (deliver (.ok (.payload p st)) s)
    | .error e => .moved (deliver (.error e) (setError e s))

/-- `verify(RXBUF)` at the current step: steps `W_VERIFY`, `X_VERIFY`, and the unit operation (R164). -/
def verifyStep (s : State) : SeqResult := finishVerify (verifyResult s.par.statusMap s.rxbuf) (verifyWrites s)

/-- The status interpretation of one byte at the current step (R167). -/
def statusStep (st : Status) (b : Byte) (s : State) : Host.Outcome State Fault Refusal :=
  ofSeq s (finishVerify (statusResult st b) (writeStatus st b s))

/-- A received frame at the current step: it is in `RXBUF` and is verified. -/
def responseStep (buf : Bytes) (s : State) : Host.Outcome State Fault Refusal :=
  ofSeq { s with rxbuf := buf } (verifyStep { s with rxbuf := buf })

/-! ### Meanings: ENCODE, VERIFY and the Response Frames -/

/-- `ENCODE` (R160, R162): load the operands, frame them, deliver the frame. -/
def execEncode (opc p1 p2a p2b : Byte) (data : Bytes) (s : State) : Host.Outcome State Fault Refusal :=
  whenIdle s <|
    if data.length ≤ Config.maxData then
      let t := encodeFrame (loadOperands opc p1 p2a p2b data (accept .encode s))
      .next (deliver (.ok (.bytes t.txbuf)) t)
    else .refused (.badRequest .dataTooLong)

/-- `VERIFY` (R164): `RXBUF` holds what the host supplied. -/
def execVerify (buf : Bytes) (s : State) : Host.Outcome State Fault Refusal :=
  whenIdle s (responseStep buf (accept .verify s))

/-- `RESP_STATUS` (R113, R167): a 4-byte Response Frame, verified at the step that holds it. -/
def execRespStatus (count status : Byte) (s : State) : Host.Outcome State Fault Refusal :=
  responseStep (responseFrame count [status]) s

/-- `RESP_DATA` (R113, R168): a longer Response Frame, its payload opaque. -/
def execRespData (count : Byte) (payload : Bytes) (s : State) : Host.Outcome State Fault Refusal :=
  responseStep (responseFrame count payload) s

end Sys2Proof.Machine
end

