-- ==== Sys2Proof/Machine/Executor.lean ====
section
/-! DEFINITION. The command executor (44_command_executor.md): the steps of `SEQ.X`, each a definition of its own, the
trigger write, and the Command Frames that are rows of the operation table. -/

namespace Sys2Proof.Machine

/-- Step `X_WAKE` with `WRAP = 0` (R221): it does nothing. With `WRAP = 1` the wake runs inside it (`SEQ.W` is not 0), so
the sequencer never stands here with `SEQ.W = 0`. -/
def xWakeStep (s : State) : SeqResult := if s.wrap then .fault .sequencerOutsideTable else .moved (advanceX s)

/-- Step `X_ARM` (R222): schedule the Idle if `WRAP`. -/
def xArmStep (s : State) : SeqResult := .moved (advanceX (if s.wrap then { s with idlep := true } else s))

/-- Step `X_ENCODE` (R223). -/
def xEncodeStep (s : State) : SeqResult := .moved (advanceX (encodeFrame s))

/-- Step `X_WRCMD` (R224): the whole frame in one write. -/
def xWrcmdStep (s : State) : SeqResult :=
  match busWrite s.cfgDevaddr s.cfgCmdreg s.txbuf s with
  | none => .stay
  | some (.err e, t) => raise (.transportError e) t
  | some (.ok, t) => .moved (advanceX t)

/-- Step `X_SETTLE` (R225). -/
def xSettleStep (s : State) : SeqResult := .moved (advanceX (settleDelay s))

/-- Step `X_TRIG` (R226): a zero byte to register 0; not best-effort. -/
def xTrigStep (s : State) : SeqResult :=
  match busWrite s.cfgDevaddr Config.reg0 [0x00#8] s with
  | none => .stay
  | some (.err e, t) => raise (.transportError e) t
  | some (.ok, t) => .moved (advanceX t)

/-- Step `X_RDLEN` (R227): one byte to `RLEN`, not validated; an answer of zero bytes is a fault. -/
def xRdlenStep (s : State) : SeqResult :=
  match busRead s.cfgDevaddr s.cfgCmdreg 1 s with
  | none => .stay
  | some (.err e, t) => raise (.transportError e) t
  | some (.bytes [], _) => .fault .noLengthByte
  | some (.bytes (b :: _), t) => .moved (advanceX { t with rlen := b })

/-- Step `X_RDFRM` (R228): `RLEN` bytes to `RXBUF`, also when `RLEN` is below 4. -/
def xRdfrmStep (s : State) : SeqResult :=
  match busRead s.cfgDevaddr s.cfgCmdreg s.rlen.toNat s with
  | none => .stay
  | some (.err e, t) => raise (.transportError e) t
  | some (.bytes b, t) => .moved (advanceX { t with rxbuf := b })

/-- Step `X_VERIFY` (R229). -/
def xVerifyStep (s : State) : SeqResult := verifyStep s

/-- Step `X_EXIT` with no Idle scheduled (R230). With `IDLEP = 1` the idle write runs inside it (`SEQ.W` is not 0). -/
def xExitStep (s : State) : SeqResult := if s.idlep then .fault .sequencerOutsideTable else leaveExecute s

/-- `TRIG_WR` (R118, R226): the trigger write, as step `X_TRIG` makes it. -/
def execTrigWr (s : State) : Host.Outcome State Fault Refusal := ofSeq s (xTrigStep s)

/-- A Command Frame put on the bus: its operands loaded, framed (R223), written to the command register (R224). -/
def sendCommand (opc p1 p2a p2b : Byte) (data : Bytes) (s : State) : Host.Outcome State Fault Refusal :=
  let t := encodeFrame (loadOperands opc p1 p2a p2b data s)
  ofSeq t (xWrcmdStep t)

/-- `CMD_GENERIC` (R101, R160, R224); more than 248 data bytes are refused (R162). -/
def execCmdGeneric (opc p1 p2a p2b : Byte) (data : Bytes) (s : State) : Host.Outcome State Fault Refusal :=
  if data.length ≤ Config.maxData then sendCommand opc p1 p2a p2b data s else .refused (.badRequest .dataTooLong)

/-- `READ_ID` (R105, R241). -/
def execReadId (s : State) : Host.Outcome State Fault Refusal := sendCommand s.par.opcRead Config.readP1 0#8 0#8 [] s

/-- `SELFTEST_ALL` (R105, R247). -/
def execSelftestAll (s : State) : Host.Outcome State Fault Refusal :=
  sendCommand s.par.opcSelftest Config.selftestP1 0#8 0#8 [] s

/-- `SHA_START` (R105, R257). -/
def execShaStart (s : State) : Host.Outcome State Fault Refusal :=
  sendCommand s.par.opcSha s.par.shaStart 0#8 0#8 [] s

/-- `SHA_UPDATE` (R105, R258); the row carries exactly 64 bytes. -/
def execShaUpdate (block : Bytes) (s : State) : Host.Outcome State Fault Refusal :=
  if block.length = Config.block then
    sendCommand s.par.opcSha s.par.shaUpdate (p2Low Config.block) (p2High Config.block) block s
  else if block.length < Config.block then .refused (.badRequest .missingOperands)
  else .refused (.badRequest .unexpectedOperands)

/-- `SHA_END` (R105, R259); the row carries 0 to 63 bytes and their count as param2. -/
def execShaEnd (tail : Bytes) (s : State) : Host.Outcome State Fault Refusal :=
  if tail.length < Config.block then
    sendCommand s.par.opcSha s.par.shaEnd (p2Low tail.length) (p2High tail.length) tail s
  else .refused (.badRequest .unexpectedOperands)

end Sys2Proof.Machine
end

