-- ==== Sys2Proof/Machine/Library.lean ====
section
/-! DEFINITION. The command library (45_command_library.md): the steps of `SEQ.L` that are not an EXECUTE or the sleep
write, and the rows of the self-test mask. -/

namespace Sys2Proof.Machine

/-- Step `L_PREP` (R256, R262): the message bytes of the request's text into `MSG`, `BLK <- 0`, then the Start exchange
(R257); text that does not decode raises DecodeError before any bus event. -/
def lPrepStep (s : State) : SeqResult :=
  match (if s.hashHex then hexDecode s.hashText else some s.hashText) with
  | none => raise .decodeError s
  | some m => .moved (beginLibExecute .lExec s.par.opcSha s.par.shaStart 0#8 0#8 [] { s with msg := m, blk := 0 })

/-- Step `L_FORMAT` (R242, R243; R248, R249; R260), then `L_SLEEP`. The payload is that of the response in `RXBUF`. -/
def lFormatStep (s : State) : SeqResult :=
  let p := payloadOf s.rxbuf
  match s.seq.op with
  | .idread => if p.length < 13 then .fault .shortPayload else .moved (enterSleep { s with text := idreadText p })
  | .selftest =>
    match p with
    | [] => .fault .shortPayload
    | mask :: _ => .moved (enterSleep { s with text := selftestText s.par.stBits mask })
  | .sha256 => .moved (enterSleep { s with text := shaText p })
  | _ => .fault .sequencerOutsideTable

/-- One item of the self-test report at the end of the output text (R247, R249). -/
def reportCapability (c : Capability) (mask : Byte) (s : State) : Host.Outcome State Fault Refusal :=
  .next { s with text := s.text ++ reportItem s.par.stBits mask c }

/-- `ST_FAIL_SHA` (R248): the report of SHA for this mask, FAIL when its bit is set. -/
def execStFailSha (mask : Byte) (s : State) : Host.Outcome State Fault Refusal := reportCapability .sha mask s

/-- `ST_FAIL_AES` (R248). -/
def execStFailAes (mask : Byte) (s : State) : Host.Outcome State Fault Refusal := reportCapability .aes mask s

/-- `ST_FAIL_ECDH` (R248). -/
def execStFailEcdh (mask : Byte) (s : State) : Host.Outcome State Fault Refusal := reportCapability .ecdh mask s

/-- `ST_FAIL_ECDSA-Sign` (R248). -/
def execStFailEcdsaSign (mask : Byte) (s : State) : Host.Outcome State Fault Refusal := reportCapability .ecdsaSign mask s

/-- `ST_FAIL_ECDSA-Verify` (R248). -/
def execStFailEcdsaVerify (mask : Byte) (s : State) : Host.Outcome State Fault Refusal :=
  reportCapability .ecdsaVerify mask s

/-- `ST_FAIL_RNG-DRBG` (R248). -/
def execStFailRngDrbg (mask : Byte) (s : State) : Host.Outcome State Fault Refusal := reportCapability .rngDrbg mask s

end Sys2Proof.Machine
end

