-- ==== Sys2Proof/Machine/Power.lean ====
section
/-! DEFINITION. The power-state controller (43_power_state.md): the six steps of `SEQ.W`, each a definition of its own,
and the three control writes that are rows of the operation table. -/

namespace Sys2Proof.Machine

/-- Step `W_WRITE` (R201): one zero byte to device `0x00`, register 0; the answer is dropped. -/
def wWriteStep (s : State) : SeqResult :=
  match busWrite Config.wakeDevaddr Config.reg0 [0x00#8] s with
  | none => .stay
  | some (_, t) => .moved (advanceW t)

/-- Step `W_SETTLE` (R202). -/
def wSettleStep (s : State) : SeqResult := .moved (advanceW (settleDelay s))

/-- Step `W_READ` (R203): 4 bytes from register 0 of the real device; a transport error propagates unchanged. -/
def wReadStep (s : State) : SeqResult :=
  match busRead s.cfgDevaddr Config.reg0 4 s with
  | none => .stay
  | some (.err e, t) => raise (.transportError e) t
  | some (.bytes b, t) => .moved (advanceW { t with rxbuf := b })

/-- Step `W_VERIFY` (R204). -/
def wVerifyStep (s : State) : SeqResult := verifyStep s

/-- The sleep write is done (R206, R210): `PWR <- Dormant`; it ends a library operation at `L_SLEEP` (R244) and the host
operation SLEEP. -/
def sleepDone (s : State) : State :=
  let s := { s with pwr := .dormant, seq := { s.seq with w := .off } }
  if s.seq.l = .lSleep ∨ s.seq.op = .sleep then endOperation s else s

/-- Step `S_WRITE` (R206): `SLEEP_BYTE` to the command register; the answer is dropped. -/
def sWriteStep (s : State) : SeqResult :=
  match busWrite s.cfgDevaddr s.cfgCmdreg [Config.sleepByte] s with
  | none => .stay
  | some (_, t) => .moved (sleepDone t)

/-- The idle write is done (R208, R210): `PWR <- Idle`; at `X_EXIT` it clears `IDLEP` and EXECUTE returns (R230); else it
ends the host operation IDLE. -/
def idleDone (s : State) : SeqResult :=
  let s := { s with pwr := .idle, seq := { s.seq with w := .off } }
  match s.seq.x with
  | .xExit => leaveExecute { s with idlep := false }
  | _ => .moved (if s.seq.op = .idle then endOperation s else s)

/-- Step `I_WRITE` (R208): `IDLE_BYTE` to the command register; the answer is dropped. -/
def iWriteStep (s : State) : SeqResult :=
  match busWrite s.cfgDevaddr s.cfgCmdreg [Config.idleByte] s with
  | none => .stay
  | some (_, t) => idleDone t

/-- `WAKE_WR` (R118, R201): the wake write, as step `W_WRITE` makes it. -/
def execWakeWr (s : State) : Host.Outcome State Fault Refusal := ofSeq s (wWriteStep s)

/-- `SLEEP_WR` (R118, R206): the sleep write, as step `S_WRITE` makes it. -/
def execSleepWr (s : State) : Host.Outcome State Fault Refusal := ofSeq s (sWriteStep s)

/-- `IDLE_WR` (R118, R208): the idle write, as step `I_WRITE` makes it. -/
def execIdleWr (s : State) : Host.Outcome State Fault Refusal := ofSeq s (iWriteStep s)

end Sys2Proof.Machine
end

