-- ==== Sys2Proof/Machine/Sequencer.lean ====
section
/-! DEFINITION. The sequencer (10_state.md R28 to R30): one step of the operation in progress, chosen by `SEQ` alone, and
the run of an accepted operation as far as the transport answers and no input is pending. -/

namespace Sys2Proof.Machine

/-- The library steps that stand alone (`SEQ.X = SEQ.W = 0`): `L_PREP` and `L_FORMAT`; in `L_EXEC`, `L_UPDATE`, `L_END`
and `L_SLEEP` a nested step is active (R28). -/
def lStep (s : State) : SeqResult :=
  match s.seq.l with
  | .lPrep => lPrepStep s
  | .lFormat => lFormatStep s
  | _ => .fault .sequencerOutsideTable

/-- The executor step `SEQ.X` names (R29). -/
def xStep (s : State) : SeqResult :=
  match s.seq.x with
  | .off => lStep s
  | .xWake => xWakeStep s
  | .xArm => xArmStep s
  | .xEncode => xEncodeStep s
  | .xWrcmd => xWrcmdStep s
  | .xSettle => xSettleStep s
  | .xTrig => xTrigStep s
  | .xRdlen => xRdlenStep s
  | .xRdfrm => xRdfrmStep s
  | .xVerify => xVerifyStep s
  | .xExit => xExitStep s

/-- The power-state step `SEQ.W` names, the innermost (R28, R29). -/
def wStep (s : State) : SeqResult :=
  match s.seq.w with
  | .off => xStep s
  | .wWrite => wWriteStep s
  | .wSettle => wSettleStep s
  | .wRead => wReadStep s
  | .wVerify => wVerifyStep s
  | .sWrite => sWriteStep s
  | .iWrite => iWriteStep s

/-- One sequencer step; none is enabled when no operation is in progress (R320) or the transport has not answered
(R336). -/
def seqStep (s : State) : SeqResult := if s.busy then wStep s else .stay

/-- The sequencer's steps, at most `n` of them, until the operation ends, waits for the transport, or faults. -/
def runSeq : Nat → State → Host.Outcome State Fault Refusal
  | 0, s => .next s
  | n + 1, s =>
    match seqStep s with
    | .moved t => runSeq n t
    | .stay => .next s
    | .fault f => .fault f

/-- More steps than any operation takes: at most 13 for an exchange, two exchanges beside the blocks (a message is no
longer than its text), the preparation, the formatting and the sleep. An operation that had any left would go on in the
next step. -/
def stepBudget (s : State) : Nat := 16 * (blockCount s.hashText + 3)

/-- Run the accepted operation (R75): to its end or as far as the transport answers while no input is pending; with one
pending only the acceptance is done here and that input lands between two sequencer steps (R132), log 7. -/
def runOperation (s : State) : Host.Outcome State Fault Refusal :=
  match s.inputs with
  | [] => runSeq (stepBudget s) s
  | _ :: _ => .next s

end Sys2Proof.Machine
end

