-- ==== Sys2Proof/Machine/HostOps.lean ====
section
/-! DEFINITION. The host operations that run through the sequencer (files 43, 44, 45) and the reserved operation codes
(R130). Each accepts the request (R43), enters its first step, and runs as far as the transport answers and no input is pending
(log 7). -/

namespace Sys2Proof.Machine

/-- `WAKE` (R200). -/
def execWake (s : State) : Host.Outcome State Fault Refusal :=
  whenIdle s (runOperation { accept .wake s with seq := ⟨.wake, .off, .off, .wWrite⟩ })

/-- `SLEEP` (R206). -/
def execSleep (s : State) : Host.Outcome State Fault Refusal :=
  whenIdle s (runOperation { accept .sleep s with seq := ⟨.sleep, .off, .off, .sWrite⟩ })

/-- `IDLE` (R208). -/
def execIdle (s : State) : Host.Outcome State Fault Refusal :=
  whenIdle s (runOperation { accept .idle s with seq := ⟨.idle, .off, .off, .iWrite⟩ })

/-- `EXECUTE` (R220); more than 248 data bytes are refused (R130). -/
def execExecute (w : Bool) (opc p1 p2a p2b : Byte) (data : Bytes) (s : State) : Host.Outcome State Fault Refusal :=
  whenIdle s <|
    if data.length ≤ Config.maxData then runOperation (beginExecute opc p1 p2a p2b data w (accept .execute s))
    else .refused (.badRequest .dataTooLong)

/-- `IDREAD` (R241). -/
def execIdread (s : State) : Host.Outcome State Fault Refusal :=
  whenIdle s (runOperation (beginLibExecute .lExec s.par.opcRead Config.readP1 0#8 0#8 [] (accept .idread s)))

/-- `SELFTEST` (R247). -/
def execSelftest (s : State) : Host.Outcome State Fault Refusal :=
  whenIdle s (runOperation (beginLibExecute .lExec s.par.opcSelftest Config.selftestP1 0#8 0#8 [] (accept .selftest s)))

/-- `SHA256` (R256). -/
def execSha256 (h : Bool) (text : Bytes) (s : State) : Host.Outcome State Fault Refusal :=
  whenIdle s (runOperation { accept .sha256 s with seq := ⟨.sha256, .lPrep, .off, .off⟩, hashText := text, hashHex := h })

/-- `RESERVED_OP_0` (R130): refused, whatever its flags and operand bytes, under this reason also while `BUSY = 1`
(log 36). -/
def execReservedOp0 (_flags : BitVec 4) (_operands : Bytes) (_s : State) : Host.Outcome State Fault Refusal :=
  .refused .reservedOperation

/-- `RESERVED_OP_D` (R130). -/
def execReservedOpD (_flags : BitVec 4) (_operands : Bytes) (_s : State) : Host.Outcome State Fault Refusal :=
  .refused .reservedOperation

/-- `RESERVED_OP_E` (R130). -/
def execReservedOpE (_flags : BitVec 4) (_operands : Bytes) (_s : State) : Host.Outcome State Fault Refusal :=
  .refused .reservedOperation

/-- `RESERVED_OP_F` (R130). -/
def execReservedOpF (_flags : BitVec 4) (_operands : Bytes) (_s : State) : Host.Outcome State Fault Refusal :=
  .refused .reservedOperation

end Sys2Proof.Machine
end

