-- ==== Sys2Proof/Machine/StatusDecoder.lean ====
section
/-! DEFINITION. The status decoder (42_status_decoder.md): the unit operation STDEC, and the status interpretation of
each row of R181 at the step that verifies the response. The byte of a row is the parameter's (R181). -/

namespace Sys2Proof.Machine

/-- `STDEC` (R180): `STATUS <- stdec(b)`, delivered; no error is raised. -/
def execStdec (b : Byte) (s : State) : Host.Outcome State Fault Refusal :=
  whenIdle s <|
    let st := stdec s.par.statusMap b
    .next (deliver (.ok (.status st)) { accept .stdec s with status := some st })

/-- Status byte of row 0, `Success` (R181): not escalated. -/
def execStatusSuccess (s : State) : Host.Outcome State Fault Refusal := statusStep .success 0x00#8 s

/-- Status byte of row 1 (R181). -/
def execStatusChecksumOrVerifyMiscompare (s : State) : Host.Outcome State Fault Refusal :=
  statusStep .checksumOrVerifyMiscompare 0x01#8 s

/-- Status byte of row 2 (R181). -/
def execStatusParseError (s : State) : Host.Outcome State Fault Refusal :=
  statusStep .parseError s.par.statusMap.parseError s

/-- Status byte of row 3 (R181). -/
def execStatusEccFault (s : State) : Host.Outcome State Fault Refusal :=
  statusStep .eccFault s.par.statusMap.eccFault s

/-- Status byte of row 4 (R181). -/
def execStatusSelfTestError (s : State) : Host.Outcome State Fault Refusal :=
  statusStep .selfTestError s.par.statusMap.selfTestError s

/-- Status byte of row 5 (R181). -/
def execStatusHealthTestError (s : State) : Host.Outcome State Fault Refusal :=
  statusStep .healthTestError s.par.statusMap.healthTestError s

/-- Status byte of row 6 (R181). -/
def execStatusExecutionError (s : State) : Host.Outcome State Fault Refusal :=
  statusStep .executionError s.par.statusMap.executionError s

/-- Status byte of row 7 (R181): informational; the one status a wake succeeds with (R204). -/
def execStatusAfterWakeBeforeFirstCommand (s : State) : Host.Outcome State Fault Refusal :=
  statusStep .afterWakeBeforeFirstCommand s.par.statusMap.afterWake s

/-- Status byte of row 8 (R181). -/
def execStatusWatchdogExpiringSoon (s : State) : Host.Outcome State Fault Refusal :=
  statusStep .watchdogExpiringSoon s.par.statusMap.watchdog s

/-- Status byte of row 9 (R181). -/
def execStatusCommunicationError (s : State) : Host.Outcome State Fault Refusal :=
  statusStep .communicationError s.par.statusMap.communicationError s

/-- A status byte outside the known set (R182). -/
def execStatusUnknown (b : Byte) (s : State) : Host.Outcome State Fault Refusal := statusStep .unknown b s

end Sys2Proof.Machine
end

