-- ==== Sys2Proof/Machine/Dispatch.lean ====
section
/-! DEFINITION. The meaning of every row of the operation table, one arm each. -/

namespace Sys2Proof.Machine

-- The meaning of one operation or encoding in a state.
def exec (i : Instr) (s : State) : Host.Outcome State Fault Refusal :=
  match i with
  -- HOSTREQ
  | .crc16 bytes => Sys2Proof.Machine.execCrc16 bytes s
  | .crcchk buf => Sys2Proof.Machine.execCrcchk buf s
  | .encode opc p1 p2a p2b data => Sys2Proof.Machine.execEncode opc p1 p2a p2b data s
  | .verify buf => Sys2Proof.Machine.execVerify buf s
  | .stdec b => Sys2Proof.Machine.execStdec b s
  | .wake => Sys2Proof.Machine.execWake s
  | .sleep => Sys2Proof.Machine.execSleep s
  | .idle => Sys2Proof.Machine.execIdle s
  | .execute w opc p1 p2a p2b data => Sys2Proof.Machine.execExecute w opc p1 p2a p2b data s
  | .idread => Sys2Proof.Machine.execIdread s
  | .selftest => Sys2Proof.Machine.execSelftest s
  | .sha256 h text => Sys2Proof.Machine.execSha256 h text s
  | .reservedOp0 flags ops => Sys2Proof.Machine.execReservedOp0 flags ops s
  | .reservedOpD flags ops => Sys2Proof.Machine.execReservedOpD flags ops s
  | .reservedOpE flags ops => Sys2Proof.Machine.execReservedOpE flags ops s
  | .reservedOpF flags ops => Sys2Proof.Machine.execReservedOpF flags ops s
  -- CMDFRAME
  | .cmdGeneric opc p1 p2a p2b data => Sys2Proof.Machine.execCmdGeneric opc p1 p2a p2b data s
  | .readId => Sys2Proof.Machine.execReadId s
  | .selftestAll => Sys2Proof.Machine.execSelftestAll s
  | .shaStart => Sys2Proof.Machine.execShaStart s
  | .shaUpdate block => Sys2Proof.Machine.execShaUpdate block s
  | .shaEnd tail => Sys2Proof.Machine.execShaEnd tail s
  -- RESPFRAME
  | .respStatus count status => Sys2Proof.Machine.execRespStatus count status s
  | .respData count payload => Sys2Proof.Machine.execRespData count payload s
  -- CTRLWR
  | .wakeWr => Sys2Proof.Machine.execWakeWr s
  | .sleepWr => Sys2Proof.Machine.execSleepWr s
  | .idleWr => Sys2Proof.Machine.execIdleWr s
  | .trigWr => Sys2Proof.Machine.execTrigWr s
  -- STATUSBYTE
  | .statusSuccess => Sys2Proof.Machine.execStatusSuccess s
  | .statusChecksumOrVerifyMiscompare => Sys2Proof.Machine.execStatusChecksumOrVerifyMiscompare s
  | .statusParseError => Sys2Proof.Machine.execStatusParseError s
  | .statusEccFault => Sys2Proof.Machine.execStatusEccFault s
  | .statusSelfTestError => Sys2Proof.Machine.execStatusSelfTestError s
  | .statusHealthTestError => Sys2Proof.Machine.execStatusHealthTestError s
  | .statusExecutionError => Sys2Proof.Machine.execStatusExecutionError s
  | .statusAfterWakeBeforeFirstCommand => Sys2Proof.Machine.execStatusAfterWakeBeforeFirstCommand s
  | .statusWatchdogExpiringSoon => Sys2Proof.Machine.execStatusWatchdogExpiringSoon s
  | .statusCommunicationError => Sys2Proof.Machine.execStatusCommunicationError s
  | .statusUnknown b => Sys2Proof.Machine.execStatusUnknown b s
  -- STMASK
  | .stFailSha mask => Sys2Proof.Machine.execStFailSha mask s
  | .stFailAes mask => Sys2Proof.Machine.execStFailAes mask s
  | .stFailEcdh mask => Sys2Proof.Machine.execStFailEcdh mask s
  | .stFailEcdsaSign mask => Sys2Proof.Machine.execStFailEcdsaSign mask s
  | .stFailEcdsaVerify mask => Sys2Proof.Machine.execStFailEcdsaVerify mask s
  | .stFailRngDrbg mask => Sys2Proof.Machine.execStFailRngDrbg mask s

end Sys2Proof.Machine
end

