-- ==== Sys2Proof/Machine/Port.lean ====
section
/-! DEFINITION. The host's register port (30_encoding.md R132, 10_state.md R41). -/

namespace Sys2Proof.Machine

/-- The current value of a control register, zero-extended to 16 bits (R41); `STATUS` may have no value (R35). -/
def readRegister (c : CtrlReg) (s : State) : PortReply :=
  match c with
  | .cfgBus => .value (s.cfgBus.zeroExtend 16)
  | .cfgDevaddr => .value (s.cfgDevaddr.zeroExtend 16)
  | .cfgSettle => .value s.cfgSettle
  | .cfgCmdreg => .value (s.cfgCmdreg.zeroExtend 16)
  | .pwr => .value ((powerCode s.pwr).zeroExtend 16)
  | .status =>
    match s.status with
    | none => .noValue
    | some st => .value (BitVec.ofNat 16 (statusIndex st))
  | .err => .value (errBits s)
  | .seq => .value (seqBits s.seq)
  | .ctrl => .value (ctrlBits s)

/-- `RegRead(c)` (R132): at any time; no event, no flag, nothing cleared. -/
def portRead (c : CtrlReg) (s : State) : Host.Outcome State Fault Refusal :=
  .next { s with portReplies := s.portReplies ++ [readRegister c s] }

/-- `RegWrite(c, v)` (R132): `trunc_8(v)` into `CFG_BUS` or `CFG_DEVADDR` while `BUSY = 0`; anything else is refused
(R41, R130). -/
def portWrite (c : CtrlReg) (v : Nat) (s : State) : Host.Outcome State Fault Refusal :=
  match c with
  | .cfgBus => if s.busy then .refused .registerWriteWhileBusy else .next { s with cfgBus := BitVec.ofNat 8 v }
  | .cfgDevaddr => if s.busy then .refused .registerWriteWhileBusy else .next { s with cfgDevaddr := BitVec.ofNat 8 v }
  | _ => .refused .readOnlyRegister

end Sys2Proof.Machine
end

