-- ==== Sys2Proof/Machine/Fetch.lean ====
section
/-! DEFINITION. How AFC comes to its next instruction: the next input (R126, R132), and the wire encoding that the
sequencer stands at (R118, R224, R229). -/

namespace Sys2Proof.Machine

/-- The host presents a request: its bytes are decoded and the operation runs, or the request is refused (R126, R130).
DESIGN CHOICE, log 36: where several grounds of R130 hold, a reserved operation code comes first, then `BUSY = 1`, then the
request's bytes. -/
def serveRequest (bytes : Bytes) (s : State) : Host.Outcome State Fault Refusal :=
  match decode s.par .hostRequest bytes with
  | .ok i => exec i s
  | .error why => if s.busy then .refused .busy else .refused (.badRequest why)

/-- The transport answers a call: the answer waits for the bus step that takes it (R64, R65, R336). -/
def answerWrite (a : WrAnswer) (s : State) : Host.Outcome State Fault Refusal := .next { s with wrAns := s.wrAns ++ [a] }

/-- The transport answers a read. -/
def answerRead (a : RdAnswer) (s : State) : Host.Outcome State Fault Refusal := .next { s with rdAns := s.rdAns ++ [a] }

/-- AFC's own step: the sequencer's step if one is enabled, else nothing (R320, R336, log 8). -/
def ownStep (s : State) : Host.Outcome State Fault Refusal := ofSeq s (seqStep s)

/-- One input (R126, R132, R336). -/
def serveInput (a : Input) (s : State) : Host.Outcome State Fault Refusal :=
  match a with
  | .request bytes => serveRequest bytes s
  | .regRead c => portRead c s
  | .regWrite c v => portWrite c v s
  | .writeAnswer a => answerWrite a s
  | .readAnswer a => answerRead a s
  | .pass => ownStep s

/-- One step: the next input if there is one, else AFC's own step (log 7). -/
def stepOnce (s : State) : Host.Outcome State Fault Refusal :=
  match s.inputs with
  | [] => ownStep s
  | a :: rest => serveInput a { s with inputs := rest }

/-- The row of the operation table that the sequencer's current step performs, if that step is one: the control writes
(R118), the Command Frame in `TXBUF` at `X_WRCMD` (R224), the Response Frame in `RXBUF` at `W_VERIFY` and `X_VERIFY`
(R204, R229). -/
def wireInstr (s : State) : Option Instr :=
  match s.seq.w, s.seq.x with
  | .wWrite, _ => some .wakeWr
  | .sWrite, _ => some .sleepWr
  | .iWrite, _ => some .idleWr
  | .wVerify, _ => (decode s.par .responseFrame s.rxbuf).toOption
  | .off, .xWrcmd => (decode s.par .commandFrame s.txbuf).toOption
  | .off, .xTrig => some .trigWr
  | .off, .xVerify => (decode s.par .responseFrame s.rxbuf).toOption
  | _, _ => none

/-- Place a host request as the next input, with no operation in progress (log 11). -/
def placeRequest (bytes : Bytes) (s : State) : State :=
  { s with busy := false, seq := Seq.zero, inputs := .request bytes :: s.inputs }

/-- Place a Command Frame as the frame the executor writes next: an EXECUTE at `X_WRCMD` with this frame (log 11). -/
def placeCommand (frame : Bytes) (s : State) : State :=
  let data := (frame.drop 5).take (frame.length - 7)
  encodeFrame
    (loadOperands (frame.getD 1 0#8) (frame.getD 2 0#8) (frame.getD 3 0#8) (frame.getD 4 0#8) data
      { s with busy := true, seq := ⟨.execute, .off, .xWrcmd, .off⟩, inputs := .pass :: s.inputs })

/-- Place a Response Frame as the frame the executor verifies next: an EXECUTE at `X_VERIFY` with it in `RXBUF`
(log 11). -/
def placeResponse (buf : Bytes) (s : State) : State :=
  { s with
    busy := true, seq := ⟨.execute, .off, .xVerify, .off⟩, rlen := BitVec.ofNat 8 buf.length, rxbuf := buf,
    inputs := .pass :: s.inputs }

/-- Place a word of the operation table on its channel. -/
def placeWord (nbits w : Nat) (s : State) : State :=
  match channelOfWord nbits with
  | .commandFrame => placeCommand (bytesOfWord nbits w) s
  | .responseFrame => placeResponse (bytesOfWord nbits w) s
  | _ => placeRequest (bytesOfWord nbits w) s

end Sys2Proof.Machine
end

