-- ==== Sys2Proof/Safety.lean ====
section
/-! DEFINITION. What counts as a safe run, in the terms claims use: the buffer bounds (Memory.wf), the nesting of the
sequencer's fields (R28), the machine's invariant, the bus address map (R62), and the words for one exchange and its
trace (R232). -/

namespace Sys2Proof.Machine

/-! ### States -/

/-- No operation in progress (R320, R341). -/
def Quiet (s : State) : Prop := s.busy = false ∧ s.seq = Seq.zero

/-- No operation in progress and no input pending: an operation that is accepted now runs undisturbed (log 7). -/
def Undisturbed (s : State) : Prop := s.busy = false ∧ s.inputs = []

/-- An operation waits for the transport: it is in progress and no sequencer step is enabled (R336). -/
def Waiting (s : State) : Prop := s.busy = true ∧ seqStep s = .stay

/-- `n` steps after an outcome, as far as it is a next state. -/
def stepsAfter : Nat → Host.Outcome State Fault Refusal → Host.Outcome State Fault Refusal
  | n + 1, .next s => stepsAfter n (step s)
  | _, o => o

/-- The step neither faults nor is refused. -/
def SafeStep (s : State) : Prop := ∃ t, step s = .next t

/-- The configuration registers and the build-time parameters are the same (R43, R45). -/
def SameConfig (s t : State) : Prop :=
  t.cfgBus = s.cfgBus ∧ t.cfgDevaddr = s.cfgDevaddr ∧ t.cfgSettle = s.cfgSettle ∧ t.cfgCmdreg = s.cfgCmdreg ∧
    t.par = s.par

/-- The buffer bounds of R42: `DATA` at most 248 bytes with its length in `DLEN`, `TXBUF` at most 255 bytes. -/
def Memory.wf (s : State) : Bool :=
  decide (s.data.length ≤ Config.maxData) && s.dlen == BitVec.ofNat 8 s.data.length && decide (s.txbuf.length ≤ 255)

/-- `SEQ.W` is at one of the four steps of a wake (R200). -/
def inWake (w : WStep) : Bool :=
  match w with
  | .wWrite => true
  | .wSettle => true
  | .wRead => true
  | .wVerify => true
  | _ => false

/-- `TXBUF` holds the frame of the operand registers, and `CNT` and `CRC` are what its framing left (R160). -/
def frameReady (s : State) : Bool :=
  s.txbuf == commandFrame s.opc s.p1 s.p2a s.p2b s.data && s.cnt == countByte s.data.length &&
    s.crc == crcReg (commandBody s.opc s.p1 s.p2a s.p2b s.data)

/-- What holds at each step of an EXECUTE (R28, R220): the wake and the idle nested where they run, the Idle scheduled
exactly in a wrapped exchange after its wake, no error before the exit, the frame ready when it is written, and a whole
response at a successful exit. -/
def exchangeNested (s : State) : Bool :=
  match s.seq.x with
  | .off => false
  | .xWake => s.err == .none && !s.idlep && (if s.wrap then inWake s.seq.w else s.seq.w == .off)
  | .xArm => s.err == .none && !s.idlep && s.seq.w == .off
  | .xWrcmd =>
    s.err == .none && s.idlep == s.wrap && s.seq.w == .off && frameReady s
  | .xExit =>
    s.idlep == s.wrap && s.seq.w == (if s.idlep then .iWrite else .off) &&
      (s.err != .none || decide (4 ≤ s.rxbuf.length))
  | _ => s.err == .none && s.idlep == s.wrap && s.seq.w == .off

/-- What holds at each library step of an operation (R28, R29, R240). -/
def libraryNested (s : State) : Bool :=
  match s.seq.l with
  | .lPrep =>
    s.seq.op == .sha256 && s.seq.x == .off && s.seq.w == .off && !s.idlep && s.err == .none
  | .lFormat =>
    s.seq.x == .off && s.seq.w == .off && !s.idlep && s.err == .none && decide (4 ≤ s.rxbuf.length)
  | .lSleep => s.seq.x == .off && s.seq.w == .sWrite && !s.idlep
  | .lExec => s.wrap && exchangeNested s
  | .lUpdate => s.seq.op == .sha256 && s.wrap && exchangeNested s
  | .lEnd => s.seq.op == .sha256 && s.wrap && exchangeNested s
  | _ => false

/-- The values of `SEQ` and the flags that the sequencer produces (R28, R29, R30), operation by operation; nested steps are
entered together, log 15. -/
def seqNested (s : State) : Bool :=
  if s.busy then
    match s.seq.op with
    | .wake => s.seq.l == .off && s.seq.x == .off && inWake s.seq.w && !s.idlep && s.err == .none
    | .sleep => s.seq.l == .off && s.seq.x == .off && s.seq.w == .sWrite && !s.idlep && s.err == .none
    | .idle => s.seq.l == .off && s.seq.x == .off && s.seq.w == .iWrite && !s.idlep && s.err == .none
    | .execute => s.seq.l == .off && exchangeNested s
    | .idread => libraryNested s
    | .selftest => libraryNested s
    | .sha256 => libraryNested s
    | _ => false
  else s.seq == Seq.zero && !s.idlep

/-- The machine's invariant. -/
def StateInv (s : State) : Bool := Memory.wf s && seqNested s

/-! ### The address map (R62) -/

/-- A bus write of the map: the wake write, the trigger write, the sleep and idle writes, a whole Command Frame. -/
def writeInMap (s : State) (bus dev reg : Byte) (bytes : Bytes) : Prop :=
  bus = s.cfgBus ∧
    ((dev = 0x00#8 ∧ reg = 0x00#8 ∧ bytes = [0x00#8]) ∨
      (dev = s.cfgDevaddr ∧ reg = 0x00#8 ∧ bytes = [0x00#8]) ∨
      (dev = s.cfgDevaddr ∧ reg = s.cfgCmdreg ∧ (bytes = [0x01#8] ∨ bytes = [0x02#8])) ∨
      (dev = s.cfgDevaddr ∧ reg = s.cfgCmdreg ∧ 7 ≤ bytes.length ∧ bytes.length ≤ 255 ∧
        bytes.head? = some (BitVec.ofNat 8 bytes.length) ∧ crcOk bytes = true))

/-- A bus read of the map: 4 bytes from register 0, or 0 to 255 bytes from the command register. -/
def readInMap (s : State) (bus dev reg : Byte) (n : Nat) : Prop :=
  bus = s.cfgBus ∧ dev = s.cfgDevaddr ∧ ((reg = 0x00#8 ∧ n = 4) ∨ (reg = s.cfgCmdreg ∧ n ≤ 255))

/-- An event AFC may put on the trace: within the map, or the settle delay (R70), or an outcome. -/
def eventInMap (s : State) : Event → Prop
  | .busWrite bus dev reg bytes _ => writeInMap s bus dev reg bytes
  | .busRead bus dev reg n _ => readInMap s bus dev reg n
  | .delay ms => ms = s.cfgSettle
  | .outcome _ => True

/-! ### One exchange in the transport's answers and on the trace (R232) -/

/-- The answers of the transport to one wrapped exchange that goes through: the two discarded write answers, the wake
response, the length byte and the response. -/
structure Exchange where
  wakeAns : WrAnswer
  wakeResp : Bytes
  len : Byte
  resp : Bytes
  idleAns : WrAnswer
  deriving DecidableEq, Repr

/-- The exchange's wake reaches the after-wake status (R204) and its response verifies (R229). -/
def Exchange.good (m : StatusMap) (g : Exchange) : Prop :=
  verifyResult m g.wakeResp = .ok [m.afterWake] (some .afterWakeBeforeFirstCommand) ∧
    ∃ st, verifyResult m g.resp = .ok (payloadOf g.resp) st

/-- The status it leaves in `STATUS` (R35): its wake's, or that of its response where that has 4 bytes too. -/
def Exchange.lastStatus (m : StatusMap) (g : Exchange) : Status :=
  if g.resp.length = 4 then stdec m (g.resp.getD 1 0#8) else .afterWakeBeforeFirstCommand

/-- The answers to its four writes, in order. -/
def Exchange.writes (g : Exchange) : List WrAnswer := [g.wakeAns, .ok, .ok, g.idleAns]

/-- The answers to its three reads, in order. -/
def Exchange.reads (g : Exchange) : List RdAnswer := [.bytes g.wakeResp, .bytes [g.len], .bytes g.resp]

/-- The three events of a wake whose read answers `resp` (R200). -/
def wakeEvents (s : State) (a : WrAnswer) (resp : RdAnswer) : List Event :=
  [.busWrite s.cfgBus 0x00#8 0x00#8 [0x00#8] a, .delay s.cfgSettle, .busRead s.cfgBus s.cfgDevaddr 0x00#8 4 resp]

/-- The five events of the body of an exchange that goes through (R232, events 4 to 8). -/
def bodyEvents (s : State) (frame : Bytes) (len : Byte) (resp : Bytes) : List Event :=
  [.busWrite s.cfgBus s.cfgDevaddr s.cfgCmdreg frame .ok, .delay s.cfgSettle,
    .busWrite s.cfgBus s.cfgDevaddr 0x00#8 [0x00#8] .ok,
    .busRead s.cfgBus s.cfgDevaddr s.cfgCmdreg 1 (.bytes [len]),
    .busRead s.cfgBus s.cfgDevaddr s.cfgCmdreg len.toNat (.bytes resp)]

/-- The idle write (R208) and the sleep write (R206) on the trace. -/
def idleEvent (s : State) (a : WrAnswer) : Event := .busWrite s.cfgBus s.cfgDevaddr s.cfgCmdreg [0x02#8] a
def sleepEvent (s : State) (a : WrAnswer) : Event := .busWrite s.cfgBus s.cfgDevaddr s.cfgCmdreg [0x01#8] a

/-- The nine bus and delay events of a wrapped exchange that goes through (R232). -/
def Exchange.events (s : State) (frame : Bytes) (g : Exchange) : List Event :=
  wakeEvents s g.wakeAns (.bytes g.wakeResp) ++ bodyEvents s frame g.len g.resp ++ [idleEvent s g.idleAns]

/-- How the body of an exchange can end in an error (R224 to R229): at the command write, the trigger write, the length
read, the frame read, or the verification of the response. -/
inductive BodyFailure where
  | command (e : BusErr)
  | trigger (e : BusErr)
  | length (e : BusErr)
  | frame (len : Byte) (e : BusErr)
  | response (len : Byte) (resp : Bytes) (err : OpError)
  deriving DecidableEq, Repr

/-- A failure of the last kind is one: its response does not verify, with this error. -/
def BodyFailure.genuine (m : StatusMap) : BodyFailure → Prop
  | .response _ resp err => verifyResult m resp = .error err
  | _ => True

/-- The answers to the writes of the body up to the failure. -/
def BodyFailure.writes : BodyFailure → List WrAnswer
  | .command e => [.err e]
  | .trigger e => [.ok, .err e]
  | _ => [.ok, .ok]

/-- The answers to the reads of the body up to the failure. -/
def BodyFailure.reads : BodyFailure → List RdAnswer
  | .command _ => []
  | .trigger _ => []
  | .length e => [.err e]
  | .frame len e => [.bytes [len], .err e]
  | .response len resp _ => [.bytes [len], .bytes resp]

/-- The error it is reported as. -/
def BodyFailure.error : BodyFailure → OpError
  | .command e => .transportError e
  | .trigger e => .transportError e
  | .length e => .transportError e
  | .frame _ e => .transportError e
  | .response _ _ err => err

/-- The events of the body up to the failure (R232). -/
def BodyFailure.events (s : State) (cmd : Bytes) : BodyFailure → List Event
  | .command e => [.busWrite s.cfgBus s.cfgDevaddr s.cfgCmdreg cmd (.err e)]
  | .trigger e =>
    [.busWrite s.cfgBus s.cfgDevaddr s.cfgCmdreg cmd .ok, .delay s.cfgSettle,
      .busWrite s.cfgBus s.cfgDevaddr 0x00#8 [0x00#8] (.err e)]
  | .length e =>
    [.busWrite s.cfgBus s.cfgDevaddr s.cfgCmdreg cmd .ok, .delay s.cfgSettle,
      .busWrite s.cfgBus s.cfgDevaddr 0x00#8 [0x00#8] .ok,
      .busRead s.cfgBus s.cfgDevaddr s.cfgCmdreg 1 (.err e)]
  | .frame len e =>
    [.busWrite s.cfgBus s.cfgDevaddr s.cfgCmdreg cmd .ok, .delay s.cfgSettle,
      .busWrite s.cfgBus s.cfgDevaddr 0x00#8 [0x00#8] .ok,
      .busRead s.cfgBus s.cfgDevaddr s.cfgCmdreg 1 (.bytes [len]),
      .busRead s.cfgBus s.cfgDevaddr s.cfgCmdreg len.toNat (.err e)]
  | .response len resp _ => bodyEvents s cmd len resp

/-- How a wrapped exchange can end in an error: in its wake (R221), by the answer to its read, or in its body with its idle
write after it (R230). -/
inductive ExchangeFailure where
  | wake (wakeAns : WrAnswer) (ans : RdAnswer) (err : OpError)
  | body (wakeAns : WrAnswer) (wakeResp : Bytes) (f : BodyFailure) (idleAns : WrAnswer)
  deriving DecidableEq, Repr

/-- A wake fails by a transport error, unchanged (R203), or by a response without the after-wake status, as WakeFailed
(R204); a body fails after a wake that went through. -/
def ExchangeFailure.genuine (m : StatusMap) : ExchangeFailure → Prop
  | .wake _ (.err e) err => err = .transportError e
  | .wake _ (.bytes resp) err =>
    err = .wakeFailed ∧ ∀ p, verifyResult m resp ≠ .ok p (some .afterWakeBeforeFirstCommand)
  | .body _ wakeResp f _ =>
    verifyResult m wakeResp = .ok [m.afterWake] (some .afterWakeBeforeFirstCommand) ∧ f.genuine m

/-- It fails in its wake. -/
def ExchangeFailure.inWake : ExchangeFailure → Bool
  | .wake _ _ _ => true
  | .body _ _ _ _ => false

/-- The answers to its writes. -/
def ExchangeFailure.writes : ExchangeFailure → List WrAnswer
  | .wake a _ _ => [a]
  | .body a _ f i => a :: f.writes ++ [i]

/-- The answers to its reads. -/
def ExchangeFailure.reads : ExchangeFailure → List RdAnswer
  | .wake _ ans _ => [ans]
  | .body _ wakeResp f _ => .bytes wakeResp :: f.reads

/-- The error it is reported as. -/
def ExchangeFailure.error : ExchangeFailure → OpError
  | .wake _ _ err => err
  | .body _ _ f _ => f.error

/-- Its events (R232). -/
def ExchangeFailure.events (s : State) (cmd : Bytes) : ExchangeFailure → List Event
  | .wake a ans _ => wakeEvents s a ans
  | .body a wakeResp f i => wakeEvents s a (.bytes wakeResp) ++ f.events s cmd ++ [idleEvent s i]

/-- The Command Frames of a SHA256 operation on a message: Start, one Update a block, End (R257 to R259). -/
def shaFrames (p : Params) (msg : Bytes) : List Bytes :=
  commandFrame p.opcSha p.shaStart 0#8 0#8 [] ::
    ((List.range (msg.length / 64)).map fun i =>
      commandFrame p.opcSha p.shaUpdate 0x40#8 0x00#8 ((msg.drop (64 * i)).take 64)) ++
    [commandFrame p.opcSha p.shaEnd (BitVec.ofNat 8 (msg.length % 64)) 0x00#8 (msg.drop (64 * (msg.length / 64)))]

end Sys2Proof.Machine
end

