-- ==== Sys2Proof/Certificates/Slice0/Obligations.lean ====
section
/-! DEFINITION. The statements for the provers, from the spec's numbered rules, file by file. -/

open Sys2Proof Sys2Proof.Machine

/-! Statements about an operation that runs through the sequencer ask that it is undisturbed (no input pending): with inputs
pending it takes the same steps one a step of the machine, as `InputsLandBetweenSteps` says (log 7). -/

/-! ### The CRC unit (40_checksum.md) -/

/-- R144: CRC16 delivers the register of the bit-serial algorithm, here written again on naturals (bit 15 is `reg / 32768`,
the shift drops what passes 16 bits), low byte first, and leaves it in `CRC`; everything else is as the acceptance of the
request left it. -/
def Obligations.Crc16DeliversTheBitSerialRegister : Prop :=
  ∀ (bytes : Bytes) (s : State), s.busy = false →
    let bits := bytes.flatMap fun b => (List.range 8).map fun i => b.toNat / 2 ^ i % 2
    let reg := bits.foldl
      (fun r d => if d ≠ r / 32768 then (2 * r % 65536) ^^^ 0x8005 else 2 * r % 65536) 0
    exec (.crc16 bytes) s =
      .next (deliver (.ok (.bytes [BitVec.ofNat 8 (reg % 256), BitVec.ofNat 8 (reg / 256)]))
        { accept .crc16 s with crc := BitVec.ofNat 16 reg })

/-- R146: CRCCHK compares the checksum of all but the last two bytes with those two, in order. A buffer of at least two
bytes is a body and two bytes; a shorter one is refused. -/
def Obligations.CrcchkComparesTheLastTwoBytes : Prop :=
  (∀ (body : Bytes) (k0 k1 : Byte) (s : State), s.busy = false →
    exec (.crcchk (body ++ [k0, k1])) s =
      .next (deliver (.ok (.bool (decide (crc16 body = [k0, k1])))) { accept .crcchk s with crc := crcReg body })) ∧
  ∀ (buf : Bytes) (s : State), s.busy = false → buf.length < 2 → ∃ r, exec (.crcchk buf) s = .refused r

/-- R147 (b) and the linearity it follows from: any single-bit mutation of the input changes the output, and on inputs of
equal length the register is linear over exclusive-or. -/
def Obligations.SingleBitFlipsAndLinearity : Prop :=
  (∀ (before after : Bytes) (b : Byte) (k : Fin 8),
    crc16 (before ++ (b ^^^ (1#8 <<< k.val)) :: after) ≠ crc16 (before ++ b :: after)) ∧
  ∀ a b : Bytes, a.length = b.length → crcReg (List.zipWith (· ^^^ ·) a b) = crcReg a ^^^ crcReg b

/-- R145 (a), (b): the empty input gives zero, and leading zero bytes do not change the result. -/
def Obligations.LeadingZeroBytesAreInvisible : Prop :=
  crc16 [] = [0x00#8, 0x00#8] ∧ ∀ (n : Nat) (s : Bytes), crc16 (List.replicate n 0x00#8 ++ s) = crc16 s

/-! ### The packet framer (41_packet_codec.md) -/

/-- R160: ENCODE delivers `count ‖ opcode ‖ param1 ‖ param2 ‖ data ‖ checksum` and writes `CNT`, `CRC`, `TXBUF` and the
operand registers. -/
def Obligations.EncodeDeliversTheFrame : Prop :=
  ∀ (opc p1 p2a p2b : Byte) (data : Bytes) (s : State), s.busy = false → data.length ≤ 248 →
    let body := BitVec.ofNat 8 (7 + data.length) :: opc :: p1 :: p2a :: p2b :: data
    exec (.encode opc p1 p2a p2b data) s =
      .next (deliver (.ok (.bytes (body ++ crc16 body)))
        { accept .encode s with
          opc := opc, p1 := p1, p2a := p2a, p2b := p2b, data := data, dlen := BitVec.ofNat 8 data.length,
          cnt := BitVec.ofNat 8 (7 + data.length), crc := crcReg body, txbuf := body ++ crc16 body })

/-- R161: the properties of every frame, and that framing is injective. -/
def Obligations.FramePropertiesAndInjectivity : Prop :=
  (∀ (opc p1 p2a p2b : Byte) (data : Bytes), data.length ≤ 248 →
    let f := commandFrame opc p1 p2a p2b data
    f.length = 7 + data.length ∧ (f[0]?).map BitVec.toNat = some f.length ∧ f[1]? = some opc ∧ f[2]? = some p1 ∧
      (f.drop 3).take 2 = [p2a, p2b] ∧ (f.drop 5).take (f.length - 7) = data ∧
      f.drop (f.length - 2) = crc16 (f.take (f.length - 2))) ∧
  (∀ opc p1 p2a p2b : Byte,
    let f := commandFrame opc p1 p2a p2b []
    f.length = 7 ∧ f[0]? = some 0x07#8) ∧
  ∀ (opc p1 p2a p2b opc' p1' p2a' p2b' : Byte) (data data' : Bytes), data.length ≤ 248 → data'.length ≤ 248 →
    commandFrame opc p1 p2a p2b data = commandFrame opc' p1' p2a' p2b' data' →
    opc = opc' ∧ p1 = p1' ∧ p2a = p2a' ∧ p2b = p2b' ∧ data = data'

/-- R164 to R168: the host operation VERIFY on every buffer: the checks in their order, what each writes, and the outcome
it delivers. (That `STATUS` has no value where the rules leave it undefined is R35.) -/
def Obligations.VerifyChecksInOrder : Prop :=
  ∀ (buf : Bytes) (s : State), s.busy = false →
    let st := stdec s.par.statusMap (buf.getD 1 0#8)
    let escalated := (1 ≤ (buf.getD 1 0#8).toNat ∧ (buf.getD 1 0#8).toNat ≤ 15) ∨ (buf.getD 1 0#8).toNat = 255
    let good := crc16 (buf.take (buf.length - 2)) = buf.drop (buf.length - 2)
    let base := { accept .verify s with rxbuf := buf }
    let summed := { base with crc := crcReg (buf.take (buf.length - 2)) }
    let statused := { summed with stb := buf.getD 1 0#8, status := some st }
    (buf.length < 4 →
      exec (.verify buf) s = .next (deliver (.error .malformedFrame) { base with err := .malformedFrame })) ∧
    (4 ≤ buf.length → ¬good →
      exec (.verify buf) s = .next (deliver (.error .checksumMismatch) { summed with err := .checksumMismatch })) ∧
    (buf.length = 4 → good → st = .unknown →
      exec (.verify buf) s =
        .next (deliver (.error (.unknownStatus (buf.getD 1 0#8)))
          { statused with err := .unknownStatus, errInfo := buf.getD 1 0#8 })) ∧
    (buf.length = 4 → good → st ≠ .unknown → escalated →
      exec (.verify buf) s =
        .next (deliver (.error (.deviceError (buf.getD 1 0#8) (reasonText st)))
          { statused with err := .deviceError, errInfo := buf.getD 1 0#8 })) ∧
    (buf.length = 4 → good → st ≠ .unknown → ¬escalated →
      exec (.verify buf) s = .next (deliver (.ok (.payload [buf.getD 1 0#8] (some st))) statused)) ∧
    (4 < buf.length → good →
      exec (.verify buf) s =
        .next (deliver (.ok (.payload ((buf.drop 1).take (buf.length - 3)) none)) summed))

/-! ### The status decoder (42_status_decoder.md) -/

/-- R180: STDEC delivers the name of the table row whose byte is `b`, or Unknown when there is none, for every
`STATUS_MAP` that satisfies R184. -/
def Obligations.StdecDeliversTheTableRow : Prop :=
  ∀ (b : Byte) (s : State), s.busy = false → statusMapValid s.par.statusMap = true →
    ∃ st, exec (.stdec b) s =
        .next (deliver (.ok (.status st)) { accept .stdec s with status := some st }) ∧
      (∀ row, statusByte s.par.statusMap row = some b → st = row) ∧
      ((∀ row, statusByte s.par.statusMap row ≠ some b) → st = .unknown)

/-- R181, R182, R183: the eleven status rows by name at `X_VERIFY`: the byte of the row and its name are written to `STB`
and `STATUS`; a known row whose byte is 1 to 15 or 255 is DeviceError with its byte, the unknown row is UnknownStatus
with its byte, and control goes to `X_EXIT` (R229, R290 (c)). That `SEQ` gets `X_EXIT` and the idle write nested in it
in one change is the model's reading (log 15); that a status row stands for this AFC step is log 9. -/
def Obligations.EachStatusRowByName : Prop :=
  ∀ s : State, s.seq.w = .off → s.seq.x = .xVerify →
    (∀ row ∈ [(Instr.statusSuccess, Status.success, 0x00#8),
        (.statusChecksumOrVerifyMiscompare, .checksumOrVerifyMiscompare, 0x01#8),
        (.statusParseError, .parseError, s.par.statusMap.parseError),
        (.statusEccFault, .eccFault, s.par.statusMap.eccFault),
        (.statusSelfTestError, .selfTestError, s.par.statusMap.selfTestError),
        (.statusHealthTestError, .healthTestError, s.par.statusMap.healthTestError),
        (.statusExecutionError, .executionError, s.par.statusMap.executionError),
        (.statusAfterWakeBeforeFirstCommand, .afterWakeBeforeFirstCommand, s.par.statusMap.afterWake),
        (.statusWatchdogExpiringSoon, .watchdogExpiringSoon, s.par.statusMap.watchdog),
        (.statusCommunicationError, .communicationError, s.par.statusMap.communicationError)],
      let seen := { s with stb := row.2.2, status := some row.2.1 }
      exec row.1 s =
        .next (enterExit (
          if (1 ≤ row.2.2.toNat ∧ row.2.2.toNat ≤ 15) ∨ row.2.2.toNat = 255 then
            { seen with err := .deviceError, errInfo := row.2.2 }
          else seen))) ∧
    ∀ b : Byte, exec (.statusUnknown b) s =
      .next (enterExit { s with stb := b, status := some .unknown, err := .unknownStatus, errInfo := b })

/-- R204, R285: the status byte at `W_VERIFY` of an EXECUTE's wake: the after-wake status, and no other, goes on to
`X_ARM` with `PWR = Awake` (R184 (d): it does not escalate); every other ends the EXECUTE with WakeFailed and leaves
`PWR`. That `ERRINFO` then keeps its value is the model's choice (log 12), that the rows stand for this AFC step log 9.
`SEQ` as the nested steps give it is log 15. -/
def Obligations.StatusRowsAtTheWake : Prop :=
  ∀ (b : Byte) (s : State), statusMapValid s.par.statusMap = true → s.seq = ⟨.execute, .off, .xWake, .wVerify⟩ →
    (b = s.par.statusMap.afterWake →
      exec (decodeStatus s.par b) s =
        .next { s with
          stb := b, status := some .afterWakeBeforeFirstCommand, pwr := .awake, seq := ⟨.execute, .off, .xArm, .off⟩ }) ∧
    (b ≠ s.par.statusMap.afterWake →
      exec (decodeStatus s.par b) s =
        .next (deliver (.error .wakeFailed)
          { s with stb := b, status := some (stdec s.par.statusMap b), err := .wakeFailed }))

/-- R164, R167, R168: a Response Frame with its checksum at `X_VERIFY`. A 4-byte one is in `RXBUF`, its checksum in
`CRC`, and then its status byte decides; a longer one goes to `X_EXIT`, whatever its first payload byte, and does not
write `STATUS` or `STB`. At both verifying steps of the sequencer, whatever `RXBUF` holds, `STATUS` is written only for a
4-byte frame: a good one gives the name of its status byte; that a bad one leaves no value is read from R35 and program
P5 (log 19). That the rows stand for this AFC step is log 9. That `SEQ` gets `X_EXIT` and the idle write nested in it in
one change is the model's reading (log 15), in clause 1 through the status rows, in clause 2 outright (R229). -/
def Obligations.ResponseRowsAtTheResponse : Prop :=
  (∀ (count b : Byte) (s : State), s.seq.w = .off → s.seq.x = .xVerify →
    exec (.respStatus count b) s =
      exec (decodeStatus s.par b)
        { s with rxbuf := [count, b] ++ crc16 [count, b], crc := crcReg [count, b] }) ∧
  (∀ (count : Byte) (payload : Bytes) (s : State), s.seq.w = .off → s.seq.x = .xVerify → 2 ≤ payload.length →
    exec (.respData count payload) s =
      .next (enterExit { s with
        rxbuf := count :: payload ++ crc16 (count :: payload), crc := crcReg (count :: payload) })) ∧
  ∀ s t : State, s.seq.w = .wVerify ∨ (s.seq.w = .off ∧ s.seq.x = .xVerify) → seqStep s = .moved t →
    let good := crc16 (s.rxbuf.take 2) = s.rxbuf.drop 2
    (s.rxbuf.length ≠ 4 → t.status = s.status ∧ t.stb = s.stb) ∧
      (s.rxbuf.length = 4 → good →
        t.status = some (stdec s.par.statusMap (s.rxbuf.getD 1 0#8)) ∧ t.stb = s.rxbuf.getD 1 0#8) ∧
      (s.rxbuf.length = 4 → ¬good → t.status = none ∧ t.stb = s.stb)

/-- R167: a 4-byte Response Frame at `X_VERIFY` completes, whatever its count and status bytes. That the row stands for
this AFC step is log 9. -/
def Obligations.StatusResponseCompletes : Prop :=
  ∀ (count b : Byte) (s : State), s.seq.w = .off → s.seq.x = .xVerify →
    ∃ t, exec (.respStatus count b) s = .next t ∧ t.seq.x = .xExit ∧ t.stb = b ∧
      t.status = some (stdec s.par.statusMap b) ∧ t.rxbuf = [count, b] ++ crc16 [count, b] ∧
      t.crc = crcReg [count, b] ∧ t.trace = s.trace ∧ t.pwr = s.pwr ∧ SameConfig s t ∧ t.txbuf = s.txbuf ∧
      t.idlep = s.idlep ∧ t.wrAns = s.wrAns ∧ t.rdAns = s.rdAns

/-! ### The power-state controller (43_power_state.md) -/

/-- R200 to R204, R210: a wake whose read answers a frame with the after-wake status, whatever the write answered. -/
def Obligations.WakeReachesAwake : Prop :=
  ∀ (a : WrAnswer) (ws : List WrAnswer) (resp : Bytes) (rs : List RdAnswer) (s : State), Undisturbed s →
    s.wrAns = a :: ws → s.rdAns = .bytes resp :: rs →
    verifyResult s.par.statusMap resp = .ok [s.par.statusMap.afterWake] (some .afterWakeBeforeFirstCommand) →
    exec .wake s =
      .next { accept .wake s with
        busy := false, seq := Seq.zero, pwr := .awake, rxbuf := resp, crc := crcReg (frameBody resp),
        stb := s.par.statusMap.afterWake, status := some .afterWakeBeforeFirstCommand, wrAns := ws, rdAns := rs,
        trace := s.trace ++ wakeEvents s a (.bytes resp) ++ [.outcome (.ok .unit)] }

/-- R204: every other result of the verification is WakeFailed, also a clean Success, and `PWR` is unchanged. -/
def Obligations.WakeFailsOnAnyOtherStatus : Prop :=
  ∀ (a : WrAnswer) (ws : List WrAnswer) (resp : Bytes) (rs : List RdAnswer) (s : State), Undisturbed s →
    s.wrAns = a :: ws → s.rdAns = .bytes resp :: rs →
    (∀ p, verifyResult s.par.statusMap resp ≠ .ok p (some .afterWakeBeforeFirstCommand)) →
    ∃ t, exec .wake s = .next t ∧ Quiet t ∧ t.err = .wakeFailed ∧ t.pwr = s.pwr ∧ SameConfig s t ∧ t.wrAns = ws ∧
      t.rdAns = rs ∧ t.trace = s.trace ++ wakeEvents s a (.bytes resp) ++ [.outcome (.error .wakeFailed)]

/-- R203: a transport error of the verifying read propagates unchanged and nothing is verified. -/
def Obligations.WakeReadErrorPropagates : Prop :=
  ∀ (a : WrAnswer) (ws : List WrAnswer) (e : BusErr) (rs : List RdAnswer) (s : State), Undisturbed s →
    s.wrAns = a :: ws → s.rdAns = .err e :: rs →
    exec .wake s =
      .next { accept .wake s with
        busy := false, seq := Seq.zero, err := .transportError, errBus := e, wrAns := ws, rdAns := rs,
        trace := s.trace ++ wakeEvents s a (.err e) ++ [.outcome (.error (.transportError e))] }

/-- R206, R208, R210: SLEEP and IDLE make their one write, drop its answer, set `PWR` and end ok. -/
def Obligations.SleepAndIdleAlwaysEndOk : Prop :=
  ∀ (a : WrAnswer) (ws : List WrAnswer) (s : State), Undisturbed s → s.wrAns = a :: ws →
    exec .sleep s =
        .next { accept .sleep s with
          busy := false, seq := Seq.zero, pwr := .dormant, wrAns := ws,
          trace := s.trace ++ [.busWrite s.cfgBus s.cfgDevaddr s.cfgCmdreg [0x01#8] a, .outcome (.ok .unit)] } ∧
      exec .idle s =
        .next { accept .idle s with
          busy := false, seq := Seq.zero, pwr := .idle, wrAns := ws,
          trace := s.trace ++ [.busWrite s.cfgBus s.cfgDevaddr s.cfgCmdreg [0x02#8] a, .outcome (.ok .unit)] }

/-- R201, R118: WAKE_WR at `W_WRITE`: one zero byte to device 0, register 0; nothing else changes but the sequencer, which
goes on to `W_SETTLE` whatever the answer. That the row stands for this AFC step is log 9. -/
def Obligations.WakeWriteRow : Prop :=
  ∀ (a : WrAnswer) (ws : List WrAnswer) (s : State), s.seq.w = .wWrite → s.wrAns = a :: ws →
    exec .wakeWr s =
      .next { s with
        wrAns := ws, trace := s.trace ++ [.busWrite s.cfgBus 0x00#8 0x00#8 [0x00#8] a],
        seq := { s.seq with w := .wSettle } }

/-- R206, R244: SLEEP_WR at `S_WRITE` of the host operation SLEEP or of a library operation: one byte `0x01` to the
command register, `PWR <- Dormant`, no error written, and the operation ends with the outcome it had. That the row stands
for this AFC step is log 9. -/
def Obligations.SleepWriteRow : Prop :=
  ∀ (a : WrAnswer) (ws : List WrAnswer) (s : State), StateInv s = true → s.busy = true → s.seq.w = .sWrite →
    s.wrAns = a :: ws →
    ∃ o, exec .sleepWr s =
        .next { s with
          wrAns := ws, pwr := .dormant, busy := false, seq := Seq.zero,
          trace := s.trace ++ [sleepEvent s a, .outcome o] } ∧
      (s.err = .none → o = .ok (okValue s)) ∧ (∀ e, raisedError s = some e → o = .error e)

/-- R208, R230: IDLE_WR at `X_EXIT` of a host EXECUTE, and of the host operation IDLE: one byte `0x02` to the command
register, `PWR <- Idle`, `IDLEP` cleared, the operation ends with the outcome it had. That the row stands for this AFC
step is log 9. -/
def Obligations.IdleWriteRow : Prop :=
  ∀ (a : WrAnswer) (ws : List WrAnswer) (s : State), StateInv s = true → s.busy = true → s.seq.w = .iWrite →
    s.seq.l = .off → s.wrAns = a :: ws →
    ∃ o, exec .idleWr s =
        .next { s with
          wrAns := ws, pwr := .idle, idlep := false, busy := false, seq := Seq.zero,
          trace := s.trace ++ [idleEvent s a, .outcome o] } ∧
      (s.err = .none → o = .ok (okValue s)) ∧ (∀ e, raisedError s = some e → o = .error e)

/-- R208, R230, R240: IDLE_WR at `X_EXIT` of an EXECUTE inside a library operation: the same write, `PWR <- Idle`, `IDLEP`
cleared; without an error the operation goes on to its next step (an Update took one block more), with one it goes to its
sleep or ends with that error, as `LIB_SLEEP_ON_ERROR` says. That `SEQ.L` goes to `L_END` without a stop at
`L_UPDATE` when no full block is left is the model's choice (log 35); SEQ entered in nested steps is log 15, the row at this
AFC step log 9. -/
def Obligations.IdleWriteRowInALibraryOperation : Prop :=
  ∀ (a : WrAnswer) (ws : List WrAnswer) (s : State), StateInv s = true → s.busy = true → s.seq.w = .iWrite →
    s.seq.l ≠ .off → s.wrAns = a :: ws →
    ∃ t, exec .idleWr s = .next t ∧ t.pwr = .idle ∧ t.idlep = false ∧ t.wrAns = ws ∧ t.rdAns = s.rdAns ∧
      t.err = s.err ∧ t.errInfo = s.errInfo ∧ t.msg = s.msg ∧ t.hashText = s.hashText ∧ t.hashHex = s.hashHex ∧
      t.text = s.text ∧ SameConfig s t ∧
      t.inputs = s.inputs ∧ t.portReplies = s.portReplies ∧
      (s.err = .none → t.busy = true ∧ t.trace = s.trace ++ [idleEvent s a] ∧
        (s.seq.op ≠ .sha256 ∨ s.seq.l = .lEnd → t.seq = ⟨s.seq.op, .lFormat, .off, .off⟩ ∧ t.rxbuf = s.rxbuf) ∧
        (s.seq.op = .sha256 → s.seq.l ≠ .lEnd →
          t.blk = s.blk + (if s.seq.l = .lUpdate then 1 else 0) ∧
            t.seq = ⟨.sha256, if t.blk < s.msg.length / 64 then .lUpdate else .lEnd, .xWake, .wWrite⟩)) ∧
      (s.err ≠ .none → s.par.libSleepOnError = true →
        t.busy = true ∧ t.seq = ⟨s.seq.op, .lSleep, .off, .sWrite⟩ ∧ t.trace = s.trace ++ [idleEvent s a]) ∧
      ∀ e, raisedError s = some e → s.par.libSleepOnError = false →
        Quiet t ∧ t.trace = s.trace ++ [idleEvent s a, .outcome (.error e)]

/-- R226: TRIG_WR at `X_TRIG`: one zero byte to register 0 of the real device; an error is not discarded. That `SEQ` gets
`X_EXIT` and the idle write nested in it in one change is the model's reading (log 15). That the row stands for this AFC
step is log 9. -/
def Obligations.TriggerWriteRow : Prop :=
  ∀ (ws : List WrAnswer) (s : State), s.seq.w = .off → s.seq.x = .xTrig →
    (s.wrAns = .ok :: ws →
      exec .trigWr s =
        .next { s with
          wrAns := ws, trace := s.trace ++ [.busWrite s.cfgBus s.cfgDevaddr 0x00#8 [0x00#8] .ok],
          seq := { s.seq with x := .xRdlen } }) ∧
    ∀ e, s.wrAns = .err e :: ws →
      exec .trigWr s =
        .next (enterExit { s with
          wrAns := ws, trace := s.trace ++ [.busWrite s.cfgBus s.cfgDevaddr 0x00#8 [0x00#8] (.err e)],
          err := .transportError, errBus := e })

/-- R288: the answers to the wake write, the sleep write and the idle write are discarded: with another answer the next
state is the same but for the answer in the one event of that write on the trace. It is said of the three rows in every
state, also outside their steps (log 9). -/
def Obligations.DiscardedAnswersChangeNothing : Prop :=
  ∀ (i : Instr), i ∈ [Instr.wakeWr, .sleepWr, .idleWr] →
    ∀ (a a' : WrAnswer) (ws : List WrAnswer) (s t : State),
      exec i { s with wrAns := a :: ws } = .next t →
      ∃ (t' : State) (bus dev reg : Byte) (bytes : Bytes) (later : List Event),
        exec i { s with wrAns := a' :: ws } = .next t' ∧ { t' with trace := t.trace } = t ∧
          t.trace = s.trace ++ .busWrite bus dev reg bytes a :: later ∧
          t'.trace = s.trace ++ .busWrite bus dev reg bytes a' :: later

/-- R336: a transport call without an answer leaves no sequencer step enabled: the operation stays where it is, `BUSY`
stays 1, and with no input the step changes nothing. That a step then changes nothing is log 8. -/
def Obligations.UnansweredCallWaits : Prop :=
  ∀ s : State, s.busy = true →
    ((s.wrAns = [] ∧ (s.seq.w = .wWrite ∨ s.seq.w = .sWrite ∨ s.seq.w = .iWrite ∨
        (s.seq.w = .off ∧ (s.seq.x = .xWrcmd ∨ s.seq.x = .xTrig)))) ∨
      (s.rdAns = [] ∧ (s.seq.w = .wRead ∨ (s.seq.w = .off ∧ (s.seq.x = .xRdlen ∨ s.seq.x = .xRdfrm))))) →
    Waiting s ∧ (s.inputs = [] → step s = .next s)

/-- R210: only the power sequences change `PWR`: the sleep write makes it Dormant, the idle write Idle, a wake's
verification makes it Awake or leaves it, and every other sequencer step leaves it. -/
def Obligations.PowerChangesOnlyInPowerSteps : Prop :=
  ∀ s t : State, seqStep s = .moved t →
    (s.seq.w = .sWrite → t.pwr = .dormant) ∧ (s.seq.w = .iWrite → t.pwr = .idle) ∧
      (s.seq.w = .wVerify → t.pwr = .awake ∨ (t.pwr = s.pwr ∧ t.err = .wakeFailed)) ∧
      (s.seq.w ≠ .sWrite → s.seq.w ≠ .iWrite → s.seq.w ≠ .wVerify → t.pwr = s.pwr)

/-! ### The command executor (44_command_executor.md) -/

/-- R220, R232: a wrapped EXECUTE whose exchange goes through: the nine events in their order, then the payload; the
device is left idle and nothing is pending. -/
def Obligations.ExecuteWrappedExchange : Prop :=
  ∀ (opc p1 p2a p2b : Byte) (data : Bytes) (g : Exchange) (ws : List WrAnswer) (rs : List RdAnswer) (s : State),
    Undisturbed s → data.length ≤ 248 → g.good s.par.statusMap → s.wrAns = g.writes ++ ws →
    s.rdAns = g.reads ++ rs →
    ∃ t, exec (.execute true opc p1 p2a p2b data) s = .next t ∧ Quiet t ∧ t.pwr = .idle ∧ t.idlep = false ∧
      t.err = .none ∧ t.txbuf = commandFrame opc p1 p2a p2b data ∧ t.rlen = g.len ∧ t.rxbuf = g.resp ∧
      t.status = some (g.lastStatus s.par.statusMap) ∧
      t.wrAns = ws ∧ t.rdAns = rs ∧ SameConfig s t ∧
      t.trace = s.trace ++ g.events s (commandFrame opc p1 p2a p2b data) ++
        [.outcome (.ok (.payload (payloadOf g.resp) none))]

/-- R220, R232: with `wrap = 0` only the five events of the body; no wake, no idle, `PWR` unchanged. -/
def Obligations.ExecuteUnwrappedExchange : Prop :=
  ∀ (opc p1 p2a p2b : Byte) (data : Bytes) (len : Byte) (resp : Bytes) (st : Option Status) (ws : List WrAnswer)
    (rs : List RdAnswer) (s : State),
    Undisturbed s → data.length ≤ 248 → verifyResult s.par.statusMap resp = .ok (payloadOf resp) st →
    s.wrAns = .ok :: .ok :: ws → s.rdAns = .bytes [len] :: .bytes resp :: rs →
    ∃ t, exec (.execute false opc p1 p2a p2b data) s = .next t ∧ Quiet t ∧ t.pwr = s.pwr ∧ t.idlep = false ∧
      t.err = .none ∧ t.status = st ∧ t.wrAns = ws ∧ t.rdAns = rs ∧ SameConfig s t ∧
      t.trace = s.trace ++ bodyEvents s (commandFrame opc p1 p2a p2b data) len resp ++
        [.outcome (.ok (.payload (payloadOf resp) none))]

/-- R224 to R231: an error at any step of the body of an EXECUTE: with `wrap = 1` nothing after it but the idle write, with
`wrap = 0` nothing at all, then that error alone. -/
def Obligations.ExecuteBodyErrorStillIdles : Prop :=
  ∀ (opc p1 p2a p2b : Byte) (data : Bytes) (f : BodyFailure) (ws : List WrAnswer) (rs : List RdAnswer) (s : State),
    Undisturbed s → data.length ≤ 248 → f.genuine s.par.statusMap →
    (∀ (a i : WrAnswer) (wake : Bytes),
      verifyResult s.par.statusMap wake = .ok [s.par.statusMap.afterWake] (some .afterWakeBeforeFirstCommand) →
      s.wrAns = a :: f.writes ++ i :: ws → s.rdAns = .bytes wake :: f.reads ++ rs →
      ∃ t, exec (.execute true opc p1 p2a p2b data) s = .next t ∧ Quiet t ∧ t.pwr = .idle ∧ t.idlep = false ∧
        t.wrAns = ws ∧ t.rdAns = rs ∧ SameConfig s t ∧
        t.trace = s.trace ++ wakeEvents s a (.bytes wake) ++ f.events s (commandFrame opc p1 p2a p2b data) ++
          [idleEvent s i, .outcome (.error f.error)]) ∧
    (s.wrAns = f.writes ++ ws → s.rdAns = f.reads ++ rs →
      ∃ t, exec (.execute false opc p1 p2a p2b data) s = .next t ∧ Quiet t ∧ t.pwr = s.pwr ∧ t.idlep = false ∧
        t.wrAns = ws ∧ t.rdAns = rs ∧ SameConfig s t ∧
        t.trace = s.trace ++ f.events s (commandFrame opc p1 p2a p2b data) ++ [.outcome (.error f.error)])

/-- R221: a failed wake ends a wrapped EXECUTE at once with the wake's error: no frame, no idle, `PWR` unchanged. -/
def Obligations.ExecuteFailedWakeStopsAtOnce : Prop :=
  ∀ (opc p1 p2a p2b : Byte) (data : Bytes) (a : WrAnswer) (ans : RdAnswer) (err : OpError) (ws : List WrAnswer)
    (rs : List RdAnswer) (s : State),
    Undisturbed s → data.length ≤ 248 → s.wrAns = a :: ws → s.rdAns = ans :: rs →
    ((∃ e, ans = .err e ∧ err = .transportError e) ∨
      (∃ resp, ans = .bytes resp ∧ err = .wakeFailed ∧
        ∀ p, verifyResult s.par.statusMap resp ≠ .ok p (some .afterWakeBeforeFirstCommand))) →
    ∃ t, exec (.execute true opc p1 p2a p2b data) s = .next t ∧ Quiet t ∧ t.pwr = s.pwr ∧ t.idlep = false ∧
      t.txbuf = [] ∧ t.wrAns = ws ∧ t.rdAns = rs ∧ SameConfig s t ∧
      t.trace = s.trace ++ wakeEvents s a ans ++ [.outcome (.error err)]

/-- R101, R105, R223, R224: each Command Frame row at `X_WRCMD` puts its frame into `TXBUF` and writes it whole, in one
write, to the command register; an answer ok goes on to `X_SETTLE`, an error to `X_EXIT` (R290 (c)). That `SEQ` gets
`X_EXIT` and the idle write nested in it in one change is the model's reading (log 15); that the rows stand for these AFC
steps is log 9. -/
def Obligations.CommandFrameRowsWriteTheirFrame : Prop :=
  ∀ (s : State) (ans : WrAnswer) (ws : List WrAnswer), s.seq.w = .off → s.seq.x = .xWrcmd → s.wrAns = ans :: ws →
    let sent : Byte → Byte → Byte → Byte → Bytes → State := fun opc p1 p2a p2b data =>
      let u : State := { s with
        opc := opc, p1 := p1, p2a := p2a, p2b := p2b, data := data, dlen := BitVec.ofNat 8 data.length,
        cnt := BitVec.ofNat 8 (7 + data.length), crc := crcReg (commandBody opc p1 p2a p2b data),
        txbuf := commandFrame opc p1 p2a p2b data, wrAns := ws,
        trace := s.trace ++
          [Event.busWrite s.cfgBus s.cfgDevaddr s.cfgCmdreg (commandFrame opc p1 p2a p2b data) ans] }
      match ans with
      | .ok => { u with seq := { s.seq with x := .xSettle } }
      | .err e => enterExit { u with err := .transportError, errBus := e }
    exec .readId s = .next (sent s.par.opcRead 0x80#8 0x00#8 0x00#8 []) ∧
    exec .selftestAll s = .next (sent s.par.opcSelftest 0x3B#8 0x00#8 0x00#8 []) ∧
    exec .shaStart s = .next (sent s.par.opcSha s.par.shaStart 0x00#8 0x00#8 []) ∧
    (∀ block : Bytes, block.length = 64 →
      exec (.shaUpdate block) s = .next (sent s.par.opcSha s.par.shaUpdate 0x40#8 0x00#8 block)) ∧
    (∀ tail : Bytes, tail.length < 64 →
      exec (.shaEnd tail) s =
        .next (sent s.par.opcSha s.par.shaEnd (BitVec.ofNat 8 tail.length) 0x00#8 tail)) ∧
    ∀ (opc p1 p2a p2b : Byte) (data : Bytes), data.length ≤ 248 →
      exec (.cmdGeneric opc p1 p2a p2b data) s = .next (sent opc p1 p2a p2b data)

/-! ### The command library (45_command_library.md) -/

/-- R241 to R244: IDREAD with an exchange that goes through and a payload of at least 13 bytes. The lower-case digits are
the spec's D23 (log 18). -/
def Obligations.IdreadDeliversSerialAndRevision : Prop :=
  ∀ (g : Exchange) (a : WrAnswer) (ws : List WrAnswer) (rs : List RdAnswer) (s : State), Undisturbed s →
    g.good s.par.statusMap → 13 ≤ (payloadOf g.resp).length → s.wrAns = g.writes ++ a :: ws →
    s.rdAns = g.reads ++ rs →
    let p := payloadOf g.resp
    ∃ t, exec .idread s = .next t ∧ Quiet t ∧ t.pwr = .dormant ∧
      t.status = some (g.lastStatus s.par.statusMap) ∧ t.err = .none ∧ t.idlep = false ∧ t.wrAns = ws ∧
      t.rdAns = rs ∧ SameConfig s t ∧
      t.trace = s.trace ++ g.events s (commandFrame s.par.opcRead 0x80#8 0x00#8 0x00#8 []) ++
        [sleepEvent s a, .outcome (.ok (.text ("serial:0x".toList ++ hexText (p.take 4 ++ (p.drop 8).take 5) ++
          " revision:0x".toList ++ hexText ((p.drop 4).take 4))))]

/-- R227, R242, R283: the two faults on an admitted request. A length read that answers with zero bytes faults at `X_RDLEN`
of every operation with an exchange: as a step, and in the run of an EXECUTE with `wrap = 0` and `wrap = 1` and of a library
operation after the exchanges `gs` before it. An IDREAD payload shorter than 13 bytes faults. -/
def Obligations.ShortAnswersFault : Prop :=
  (∀ (rs : List RdAnswer) (s : State), StateInv s = true → s.busy = true → s.seq.x = .xRdlen →
    s.rdAns = .bytes [] :: rs →
    seqStep s = .fault .noLengthByte ∧
      (s.inputs = [] ∨ s.inputs.head? = some .pass → step s = .fault .noLengthByte)) ∧
  (∀ (opc p1 p2a p2b : Byte) (data : Bytes) (ws : List WrAnswer) (rs : List RdAnswer) (s : State), Undisturbed s →
    data.length ≤ 248 →
    (s.wrAns = .ok :: .ok :: ws → s.rdAns = .bytes [] :: rs →
      exec (.execute false opc p1 p2a p2b data) s = .fault .noLengthByte) ∧
    ∀ (a : WrAnswer) (wake : Bytes),
      verifyResult s.par.statusMap wake = .ok [s.par.statusMap.afterWake] (some .afterWakeBeforeFirstCommand) →
      s.wrAns = a :: .ok :: .ok :: ws → s.rdAns = .bytes wake :: .bytes [] :: rs →
      exec (.execute true opc p1 p2a p2b data) s = .fault .noLengthByte) ∧
  (∀ (i : Instr) (exchanges : Nat) (gs : List Exchange) (a : WrAnswer) (wake : Bytes) (ws : List WrAnswer)
    (rs : List RdAnswer) (s : State), Undisturbed s →
    ((i = .idread ∧ exchanges = 1) ∨ (i = .selftest ∧ exchanges = 1) ∨
      ∃ isHex text msg, i = .sha256 isHex text ∧ exchanges = 2 + msg.length / 64 ∧
        if isHex then hexDecode text = some msg else msg = text) →
    gs.length < exchanges → (∀ g ∈ gs, g.good s.par.statusMap) →
    verifyResult s.par.statusMap wake = .ok [s.par.statusMap.afterWake] (some .afterWakeBeforeFirstCommand) →
    s.wrAns = gs.flatMap Exchange.writes ++ a :: .ok :: .ok :: ws →
    s.rdAns = gs.flatMap Exchange.reads ++ .bytes wake :: .bytes [] :: rs →
    exec i s = .fault .noLengthByte) ∧
  ∀ (g : Exchange) (ws : List WrAnswer) (rs : List RdAnswer) (s : State), Undisturbed s →
    g.good s.par.statusMap → (payloadOf g.resp).length < 13 → s.wrAns = g.writes ++ ws → s.rdAns = g.reads ++ rs →
    exec .idread s = .fault .shortPayload

/-- R247 to R250: SELFTEST with an exchange that goes through: one item a capability, FAIL where the bit of the first
payload byte is set. -/
def Obligations.SelftestDeliversTheReport : Prop :=
  ∀ (g : Exchange) (a : WrAnswer) (ws : List WrAnswer) (rs : List RdAnswer) (s : State), Undisturbed s →
    g.good s.par.statusMap → s.wrAns = g.writes ++ a :: ws → s.rdAns = g.reads ++ rs →
    let mask := (payloadOf g.resp).headD 0#8
    let item := fun (name : String) (bit : Nat) =>
      name.toList ++ ":".toList ++ (if mask.getLsbD bit then "FAIL".toList else "PASS".toList) ++ " ".toList
    let b := s.par.stBits
    ∃ t, exec .selftest s = .next t ∧ Quiet t ∧ t.pwr = .dormant ∧
      t.status = some (g.lastStatus s.par.statusMap) ∧ t.err = .none ∧ t.idlep = false ∧ t.wrAns = ws ∧
      t.rdAns = rs ∧ SameConfig s t ∧
      t.trace = s.trace ++ g.events s (commandFrame s.par.opcSelftest 0x3B#8 0x00#8 0x00#8 []) ++
        [sleepEvent s a, .outcome (.ok (.text (item "SHA" 5 ++ item "AES" b.aes.val ++ item "ECDH" b.ecdh.val ++
          item "ECDSA-Sign" b.ecdsaSign.val ++ item "ECDSA-Verify" b.ecdsaVerify.val ++
          item "RNG-DRBG" b.rngDrbg.val)))]

/-- R256 to R261, R263: SHA256 on a message of any length whose exchanges all go through: Start, one Update a full block in
message order, End with the tail, each in its own session, then one sleep write and the hexadecimal text of the End
payload. -/
def Obligations.Sha256RunsEveryBlock : Prop :=
  ∀ (isHex : Bool) (text msg : Bytes) (gs : List Exchange) (last : Exchange) (a : WrAnswer) (ws : List WrAnswer)
    (rs : List RdAnswer) (s : State), Undisturbed s →
    (if isHex then hexDecode text = some msg else msg = text) →
    gs.length = 1 + msg.length / 64 → (∀ g ∈ gs ++ [last], g.good s.par.statusMap) →
    s.wrAns = (gs ++ [last]).flatMap Exchange.writes ++ a :: ws →
    s.rdAns = (gs ++ [last]).flatMap Exchange.reads ++ rs →
    ∃ t, exec (.sha256 isHex text) s = .next t ∧ Quiet t ∧ t.pwr = .dormant ∧ t.err = .none ∧ t.idlep = false ∧
      t.blk = msg.length / 64 ∧ t.msg = msg ∧ t.status = some (last.lastStatus s.par.statusMap) ∧
      t.wrAns = ws ∧ t.rdAns = rs ∧ SameConfig s t ∧
      t.trace = s.trace ++
        (List.zipWith (fun frame g => Exchange.events s frame g) (shaFrames s.par msg) (gs ++ [last])).flatten ++
        [sleepEvent s a, .outcome (.ok (.text ("SHA256 HexDigest: ".toList ++ hexText (payloadOf last.resp))))]

/-- R262, R282: hexadecimal text that does not decode is DecodeError, with no bus event, no sleep and `PWR` unchanged.
The operands' own fields are log 22. -/
def Obligations.Sha256RejectsBadHex : Prop :=
  ∀ (text : Bytes) (s : State), Undisturbed s → hexDecode text = none →
    exec (.sha256 true text) s =
      .next { accept .sha256 s with
        busy := false, seq := Seq.zero, hashText := text, hashHex := true, err := .decodeError,
        trace := s.trace ++ [.outcome (.error .decodeError)] }

/-- R262: which texts decode, and to what: an even number of characters, each hexadecimal in either case, the first of a
pair the high nibble. -/
def Obligations.HexDecodeAcceptsExactlyPairs : Prop :=
  (∀ text : Bytes, (hexDecode text).isSome = true ↔
    text.length % 2 = 0 ∧ ∀ c ∈ text, (48 ≤ c.toNat ∧ c.toNat ≤ 57) ∨ (65 ≤ c.toNat ∧ c.toNat ≤ 70) ∨
      (97 ≤ c.toNat ∧ c.toNat ≤ 102)) ∧
  ∀ msg : Bytes, hexDecode ((hexText msg).map fun c => BitVec.ofNat 8 c.toNat) = some msg

/-- R245, R263: an EXECUTE that fails inside IDREAD, SELFTEST or SHA256, in its wake or in its body, after the exchanges
`gs` before it went through: no further exchange, the same error unchanged, no text, and one sleep write or none as
`LIB_SLEEP_ON_ERROR` says (log 6). -/
def Obligations.LibraryErrorPath : Prop :=
  ∀ (i : Instr) (frames : List Bytes) (s : State),
    ((i = .idread ∧ frames = [commandFrame s.par.opcRead 0x80#8 0x00#8 0x00#8 []]) ∨
      (i = .selftest ∧ frames = [commandFrame s.par.opcSelftest 0x3B#8 0x00#8 0x00#8 []]) ∨
      ∃ isHex text msg, i = .sha256 isHex text ∧ frames = shaFrames s.par msg ∧
        if isHex then hexDecode text = some msg else msg = text) →
    ∀ (gs : List Exchange) (f : ExchangeFailure) (b : WrAnswer) (ws : List WrAnswer) (rs : List RdAnswer),
      Undisturbed s → gs.length < frames.length → (∀ g ∈ gs, g.good s.par.statusMap) → f.genuine s.par.statusMap →
      s.wrAns = gs.flatMap Exchange.writes ++ f.writes ++ b :: ws →
      s.rdAns = gs.flatMap Exchange.reads ++ f.reads ++ rs →
      let events := (List.zipWith (fun frame g => Exchange.events s frame g) frames gs).flatten ++
        f.events s (frames.getD gs.length [])
      ∃ t, exec i s = .next t ∧ Quiet t ∧ raisedError t = some f.error ∧ t.idlep = false ∧ t.text = [] ∧
        SameConfig s t ∧ t.rdAns = rs ∧
        (s.par.libSleepOnError = true → t.pwr = .dormant ∧ t.wrAns = ws ∧
          t.trace = s.trace ++ events ++ [sleepEvent s b, .outcome (.error f.error)]) ∧
        (s.par.libSleepOnError = false →
          t.pwr = (if gs = [] ∧ f.inWake then s.pwr else .idle) ∧ t.wrAns = b :: ws ∧
          t.trace = s.trace ++ events ++ [.outcome (.error f.error)])

/-- R248, R249: each self-test row on a mask with its bit set appends its capability's FAIL item to the report, and
changes nothing else. That a mask row stands for this part of the formatter is log 9. -/
def Obligations.SelftestRowsReportFailure : Prop :=
  ∀ (mask : Byte) (s : State),
    let b := s.par.stBits
    (mask.getLsbD 5 = true → exec (.stFailSha mask) s = .next { s with text := s.text ++ "SHA:FAIL ".toList }) ∧
    (mask.getLsbD b.aes.val = true →
      exec (.stFailAes mask) s = .next { s with text := s.text ++ "AES:FAIL ".toList }) ∧
    (mask.getLsbD b.ecdh.val = true →
      exec (.stFailEcdh mask) s = .next { s with text := s.text ++ "ECDH:FAIL ".toList }) ∧
    (mask.getLsbD b.ecdsaSign.val = true →
      exec (.stFailEcdsaSign mask) s = .next { s with text := s.text ++ "ECDSA-Sign:FAIL ".toList }) ∧
    (mask.getLsbD b.ecdsaVerify.val = true →
      exec (.stFailEcdsaVerify mask) s = .next { s with text := s.text ++ "ECDSA-Verify:FAIL ".toList }) ∧
    (mask.getLsbD b.rngDrbg.val = true →
      exec (.stFailRngDrbg mask) s = .next { s with text := s.text ++ "RNG-DRBG:FAIL ".toList })

/-- R255: the blocks and the tail are the message: full blocks of 64 bytes, then the 0 to 63 bytes that remain. -/
def Obligations.MessageSplitsIntoBlocksAndTail : Prop :=
  ∀ msg : Bytes,
    ((List.range (blockCount msg)).map (hashBlock msg)).flatten ++ hashTail msg = msg ∧
      (∀ i < blockCount msg, (hashBlock msg i).length = 64) ∧ (hashTail msg).length = msg.length % 64 ∧
      tailCount msg = (hashTail msg).length

/-! ### Reset, the host's requests, the register port -/

/-- R46: power-on reset, register by register. -/
def Obligations.ResetLeavesTheStatedValues : Prop :=
  let r := State.reset
  [r.opc, r.p1, r.p2a, r.p2b, r.dlen, r.cnt, r.rlen, r.stb] = List.replicate 8 0#8 ∧ r.crc = 0#16 ∧ r.blk = 0 ∧
    seqBits r.seq = 0#16 ∧ errCode r.err = 0#4 ∧ r.errInfo = 0#8 ∧ r.idlep = false ∧ r.wrap = false ∧ r.busy = false ∧
    r.status = none ∧ r.data = [] ∧ r.txbuf = [] ∧ r.rxbuf = [] ∧ r.msg = [] ∧ r.cfgBus = 0#8 ∧ r.cfgDevaddr = 0x60#8 ∧
    r.pwr = .dormant

/-- R43, R42, R20: what a unit operation leaves. The acceptance of every request clears the registers and buffers one by one
and sets `BUSY` and `SEQ.OP` (first clause, the words in which the other statements name it). After the operation, what it
does not write itself is still clear; configuration, `PWR`, parameters and inputs are as they were; one outcome is on the
trace, `ERR` is that outcome's, and there is no bus event. The clear of the model's own fields is log 3, log 14, log 22. -/
def Obligations.UnitOperationFrame : Prop :=
  (∀ (op : OpCode) (s : State),
    accept op s = { s with
      opc := 0#8, p1 := 0#8, p2a := 0#8, p2b := 0#8, dlen := 0#8, cnt := 0#8, crc := 0#16, rlen := 0#8, stb := 0#8,
      blk := 0, err := .none, errInfo := 0#8, errBus := 0, idlep := false, wrap := false, status := none, data := [],
      txbuf := [], rxbuf := [], msg := [], hashText := [], hashHex := false, text := [], busy := true,
      seq := ⟨op, .off, .off, .off⟩ }) ∧
  ∀ (i : Instr) (s t : State),
    (∃ b, i = .crc16 b) ∨ (∃ b, i = .crcchk b) ∨ (∃ o p q r d, i = .encode o p q r d) ∨ (∃ b, i = .verify b) ∨
      (∃ b, i = .stdec b) →
    exec i s = .next t →
    Quiet t ∧ SameConfig s t ∧ t.pwr = s.pwr ∧ t.wrAns = s.wrAns ∧ t.rdAns = s.rdAns ∧ t.inputs = s.inputs ∧
      t.portReplies = s.portReplies ∧ t.blk = 0 ∧ t.rlen = 0#8 ∧ t.errBus = 0 ∧ t.idlep = false ∧ t.wrap = false ∧
      t.msg = [] ∧ t.hashText = [] ∧ t.hashHex = false ∧ t.text = [] ∧
      ((∀ o p q r d, i ≠ .encode o p q r d) →
        t.opc = 0#8 ∧ t.p1 = 0#8 ∧ t.p2a = 0#8 ∧ t.p2b = 0#8 ∧ t.dlen = 0#8 ∧ t.cnt = 0#8 ∧ t.data = [] ∧
          t.txbuf = []) ∧
      ((∀ b, i ≠ .verify b) → t.stb = 0#8 ∧ t.err = .none ∧ t.errInfo = 0#8 ∧ t.rxbuf = []) ∧
      ((∀ b, i ≠ .verify b) → (∀ b, i ≠ .stdec b) → t.status = none) ∧
      ((∃ b, i = .stdec b) → t.crc = 0#16) ∧
      (t.err ≠ .unknownStatus → t.err ≠ .deviceError → t.errInfo = 0#8) ∧
      ∃ o, t.trace = s.trace ++ [.outcome o] ∧ (∀ v, o = .ok v → t.err = .none) ∧
        ∀ e, o = .error e → raisedError t = some e

/-- R36 to R40, R43, R45: the frame of every row of the operation table: no row writes the configuration, the parameters,
the inputs still to come or what the register port returned; it only adds to the trace, and takes transport answers from the
front. -/
def Obligations.EveryRowKeepsTheConfiguration : Prop :=
  ∀ (i : Instr) (s t : State), exec i s = .next t →
    SameConfig s t ∧ t.inputs = s.inputs ∧ t.portReplies = s.portReplies ∧ (∃ es, t.trace = s.trace ++ es) ∧
      (∃ used, s.wrAns = used ++ t.wrAns) ∧ ∃ used, s.rdAns = used ++ t.rdAns

/-- R34, R130: while an operation is in progress every host request is refused, whichever operation it names. -/
def Obligations.BusyRefusesEveryRequest : Prop :=
  ∀ (s : State) (bytes : Bytes) (rest : List Input), s.busy = true → s.inputs = .request bytes :: rest →
    ∃ r, step s = .refused r

/-- R130, R162: the requests the spec gives no meaning are refused. The reserved rows, whatever their flags, operand bytes
and the state; more than 248 data bytes of ENCODE, EXECUTE and the generic frame. A step whose input is a request that does
not decode is a refusal, and so is one whose header `op`, `flags` and operand bytes are any of R130's list, or that has no
header byte (log 26). Which reason a refusal carries is log 36. -/
def Obligations.RequestsWithoutMeaningAreRefused : Prop :=
  (∀ (flags : BitVec 4) (ops : Bytes) (s : State),
    exec (.reservedOp0 flags ops) s = .refused .reservedOperation ∧
      exec (.reservedOpD flags ops) s = .refused .reservedOperation ∧
      exec (.reservedOpE flags ops) s = .refused .reservedOperation ∧
      exec (.reservedOpF flags ops) s = .refused .reservedOperation) ∧
  (∀ (w : Bool) (opc p1 p2a p2b : Byte) (data : Bytes) (s : State), s.busy = false → 248 < data.length →
    exec (.encode opc p1 p2a p2b data) s = .refused (.badRequest .dataTooLong) ∧
      exec (.execute w opc p1 p2a p2b data) s = .refused (.badRequest .dataTooLong) ∧
      exec (.cmdGeneric opc p1 p2a p2b data) s = .refused (.badRequest .dataTooLong)) ∧
  (∀ (bytes : Bytes) (why : Reject) (rest : List Input) (s : State), s.inputs = .request bytes :: rest →
    decode s.par .hostRequest bytes = .error why → ∃ r, step s = .refused r) ∧
  (∀ (rest : List Input) (s : State), s.inputs = .request [] :: rest → ∃ r, step s = .refused r) ∧
  ∀ (header : Byte) (ops : Bytes) (rest : List Input) (s : State), s.inputs = .request (header :: ops) :: rest →
    let op := header.toNat / 16
    let flags := header.toNat % 16
    (op ∈ [0x0, 0xD, 0xE, 0xF] ∨ (op ∉ [0x9, 0xC] ∧ flags ≠ 0) ∨ (op = 0x9 ∧ flags ∉ [0, 1]) ∨
      (op = 0xC ∧ flags ∉ [0, 2]) ∨ (op = 0x2 ∧ ops.length < 2) ∨ (op ∈ [0x3, 0x9] ∧ ops.length < 4) ∨
      (op ∈ [0x3, 0x9] ∧ 4 + 248 < ops.length) ∨ (op = 0x5 ∧ ops.length ≠ 1) ∨
      (op ∈ [0x6, 0x7, 0x8, 0xA, 0xB] ∧ ops ≠ [])) →
    ∃ r, step s = .refused r

/-- R132, R41: a register read at any time returns the register's current value and changes nothing else. Zeros in the
unused bits are log 34, the reply where `STATUS` has no value log 33. -/
def Obligations.RegisterReadReturnsTheValue : Prop :=
  ∀ (c : CtrlReg) (rest : List Input) (s : State), s.inputs = .regRead c :: rest →
    ∃ v, step s = .next { s with inputs := rest, portReplies := s.portReplies ++ [v] } ∧
      (c = .cfgBus → v = .value (BitVec.ofNat 16 s.cfgBus.toNat)) ∧
      (c = .cfgDevaddr → v = .value (BitVec.ofNat 16 s.cfgDevaddr.toNat)) ∧
      (c = .cfgSettle → v = .value s.cfgSettle) ∧
      (c = .cfgCmdreg → v = .value (BitVec.ofNat 16 s.cfgCmdreg.toNat)) ∧
      (c = .pwr → v = .value (BitVec.ofNat 16 (powerCode s.pwr).toNat)) ∧
      (c = .status → s.status = none → v = .noValue) ∧
      (∀ st, c = .status → s.status = some st → v = .value (BitVec.ofNat 16 (statusIndex st))) ∧
      (c = .err → v = .value (BitVec.ofNat 16 ((errCode s.err).toNat + 256 * s.errInfo.toNat))) ∧
      (c = .seq → v = .value (BitVec.ofNat 16 (4096 * (opCode s.seq.op).toNat + 256 * (lCode s.seq.l).toNat +
        16 * (xCode s.seq.x).toNat + (wCode s.seq.w).toNat))) ∧
      (c = .ctrl → v = .value (BitVec.ofNat 16 (s.wrap.toNat + 2 * s.idlep.toNat + 4 * s.busy.toNat)))

/-- R132, R41: a register write is taken only for `CFG_BUS` and `CFG_DEVADDR`, only while `BUSY = 0`, and only its low 8
bits; anything else is refused. -/
def Obligations.RegisterWriteIsGuarded : Prop :=
  ∀ (c : CtrlReg) (v : Nat) (rest : List Input) (s : State), s.inputs = .regWrite c v :: rest →
    (s.busy = false → c = .cfgBus → step s = .next { s with inputs := rest, cfgBus := BitVec.ofNat 8 v }) ∧
    (s.busy = false → c = .cfgDevaddr → step s = .next { s with inputs := rest, cfgDevaddr := BitVec.ofNat 8 v }) ∧
    (s.busy = true ∨ (c ≠ .cfgBus ∧ c ≠ .cfgDevaddr) → ∃ r, step s = .refused r)

/-! ### The step -/

/-- R126: when the next input is a request that decodes, the step is exec of that operation, the request taken from the
inputs. That inputs come one a step is log 7. -/
def Obligations.StepRunsTheDecodedRequest : Prop :=
  ∀ (i : Instr) (bytes : Bytes) (rest : List Input) (s : State), s.inputs = .request bytes :: rest →
    decode s.par .hostRequest bytes = .ok i → step s = exec i { s with inputs := rest }

/-- R75, R118, R224, R229: while an operation is in progress and the sequencer stands at a step that puts a row of the
table on the bus or takes one from it, the step is exec of that row, with no input or with one that leaves the step to
AFC. Which AFC step each row stands for is log 9, the inputs are log 7. -/
def Obligations.StepRunsTheWireRow : Prop :=
  ∀ (i : Instr) (s : State), StateInv s = true → s.busy = true → wireInstr s = some i →
    (s.inputs = [] → step s = exec i s) ∧
      ∀ rest, s.inputs = .pass :: rest → step s = exec i { s with inputs := rest }

/-- R64, R65, R336: an answer of the transport that comes in waits for the bus step that takes it; nothing else changes.
The lists and the inputs are the model's (log 1, log 7). -/
def Obligations.TransportAnswersAreQueued : Prop :=
  ∀ (a : WrAnswer) (b : RdAnswer) (rest : List Input) (s : State),
    (s.inputs = .writeAnswer a :: rest → step s = .next { s with inputs := rest, wrAns := s.wrAns ++ [a] }) ∧
      (s.inputs = .readAnswer b :: rest → step s = .next { s with inputs := rest, rdAns := s.rdAns ++ [b] })

/-- The invariant at reset. The combinations of `SEQ` and the flags it admits rest on log 15. -/
def Obligations.InvHoldsAtReset : Prop := StateInv State.reset = true

/-- R28, R30, R42: every step keeps the buffer bounds and the nesting of the sequencer's fields and flags. The
combinations of `SEQ` and the flags it admits rest on log 15. -/
def Obligations.StepKeepsInv : Prop := ∀ s t : State, StateInv s = true → step s = .next t → StateInv t = true

/-- U11, R30: from a state of the invariant no step meets a sequencer value outside the table. That such a value is a
fault is log 23, which combinations there are rests on log 15. -/
def Obligations.SequencerNeverLeavesTheTable : Prop :=
  ∀ s : State, StateInv s = true → step s ≠ .fault .sequencerOutsideTable

/-- R62, R67, R70: every event a step puts on the trace is a transaction of the address map with this state's bus, device
and command register, a settle delay, or an outcome; nothing is taken off the trace. -/
def Obligations.BusEventsStayInTheAddressMap : Prop :=
  ∀ s t : State, StateInv s = true → step s = .next t →
    ∃ es, t.trace = s.trace ++ es ∧ ∀ e ∈ es, eventInMap s e

/-- R40: `PWR` is read by no rule: from two states that differ at most in `PWR` and in what the register port has returned,
a step does the same, and the next states again differ at most in these two. -/
def Obligations.PowerIsReadByNoRule : Prop :=
  ∀ s s' : State,
    let hide := fun t : State => { t with pwr := .dormant, portReplies := [] }
    hide s = hide s' →
    (∀ t, step s = .next t → ∃ t', step s' = .next t' ∧ hide t' = hide t) ∧
      (∀ f, step s = .fault f → step s' = .fault f) ∧
      ∀ r, step s = .refused r → step s' = .refused r

/-- R341, R336: an accepted request with no input pending runs to the end of its operation, or waits for an answer of the
transport. That exec runs it as far as the answers are there is the model's choice (log 7). -/
def Obligations.OperationEndsOrWaits : Prop :=
  ∀ (i : Instr) (s t : State), channelOf i = .hostRequest → s.inputs = [] → exec i s = .next t → Quiet t ∨ Waiting t

/-- R132, R30: inputs land between the steps of an operation, from its acceptance on. With inputs pending exec is the
acceptance alone: what R43 names is cleared, the operands and `WRAP` are loaded (R220, R240; R241, R247, R256 for the
library), and the operation stands at its first step. The clear of the model's own fields in it, `errBus` (log 3), `text`
(log 14), `hashText` and `hashHex`, and the load of SHA256's operands into these last two (log 22), are the model's choice.
Any register reads between the steps change nothing of the operation: taken one step at a time, with `pass` often enough, it
ends (or waits, or faults) as it does undisturbed, but for what the port returned. That inputs stand in a list, one a step,
is the model's choice (log 7). `SEQ` at the first step, nested steps entered together, is log 15. -/
def Obligations.InputsLandBetweenSteps : Prop :=
  (∀ (s : State) (w h : Bool) (opc p1 p2a p2b : Byte) (data text : Bytes), s.busy = false → s.inputs ≠ [] →
    data.length ≤ 248 →
    let clear := { s with
      opc := 0#8, p1 := 0#8, p2a := 0#8, p2b := 0#8, dlen := 0#8, cnt := 0#8, crc := 0#16, rlen := 0#8, stb := 0#8,
      blk := 0, err := .none, errInfo := 0#8, errBus := 0, idlep := false, wrap := false, status := none, data := [],
      txbuf := [], rxbuf := [], msg := [], hashText := [], hashHex := false, text := [], busy := true }
    exec .wake s = .next { clear with seq := ⟨.wake, .off, .off, .wWrite⟩ } ∧
      exec .sleep s = .next { clear with seq := ⟨.sleep, .off, .off, .sWrite⟩ } ∧
      exec .idle s = .next { clear with seq := ⟨.idle, .off, .off, .iWrite⟩ } ∧
      exec (.execute w opc p1 p2a p2b data) s =
        .next { clear with
          opc := opc, p1 := p1, p2a := p2a, p2b := p2b, dlen := BitVec.ofNat 8 data.length, data := data, wrap := w,
          seq := ⟨.execute, .off, .xWake, if w then .wWrite else .off⟩ } ∧
      exec .idread s =
        .next { clear with
          opc := s.par.opcRead, p1 := 0x80#8, wrap := true, seq := ⟨.idread, .lExec, .xWake, .wWrite⟩ } ∧
      exec .selftest s =
        .next { clear with
          opc := s.par.opcSelftest, p1 := 0x3B#8, wrap := true, seq := ⟨.selftest, .lExec, .xWake, .wWrite⟩ } ∧
      exec (.sha256 h text) s =
        .next { clear with hashText := text, hashHex := h, seq := ⟨.sha256, .lPrep, .off, .off⟩ }) ∧
  ∀ (i : Instr) (s : State), channelOf i = .hostRequest →
    ∃ enough : Nat, ∀ ins : List Input, (∀ a ∈ ins, a = .pass ∨ ∃ c, a = .regRead c) → enough ≤ ins.count .pass →
      let stepped := stepsAfter ins.length (exec i { s with inputs := ins })
      (∀ t, exec i { s with inputs := [] } = .next t →
        ∃ t', stepped = .next t' ∧ { t' with portReplies := t.portReplies } = t) ∧
      ∀ f, exec i { s with inputs := [] } = .fault f → stepped = .fault f

/-- R36 to R39, R45: no step changes the parameters or the read-only registers, and only a register write changes the bus
index or the device address. -/
def Obligations.ConfigurationIsStable : Prop :=
  ∀ s t : State, step s = .next t →
    t.par = s.par ∧ t.cfgSettle = s.cfgSettle ∧ t.cfgCmdreg = s.cfgCmdreg ∧
      ((∀ v, s.inputs.head? ≠ some (.regWrite .cfgBus v)) → t.cfgBus = s.cfgBus) ∧
      ((∀ v, s.inputs.head? ≠ some (.regWrite .cfgDevaddr v)) → t.cfgDevaddr = s.cfgDevaddr)

/-- R31, R286: the first error that is not discarded stays: no later sequencer step of the operation changes `ERR`,
`ERRINFO` or the transport's error value. -/
def Obligations.FirstErrorStays : Prop :=
  ∀ s t : State, StateInv s = true → seqStep s = .moved t → s.err ≠ .none →
    t.err = s.err ∧ t.errInfo = s.errInfo ∧ t.errBus = s.errBus

/-! ### Encodings (30_encoding.md) -/

/-- R101, R110, R118, R126, R181, R248: decoding what the encoder writes gives the row back, for every well-formed row, all
its operands, and all parameters. -/
def Obligations.DecodeOfEncode : Prop :=
  ∀ (par : Params) (i : Instr), wellFormed par i = true → decode par (channelOf i) (encode par i) = .ok i

/-- R101, R110, R118, R126, R181, R248: what decodes is the encoding of a well-formed row on its channel, so each byte
string has at most one meaning there. -/
def Obligations.EncodeOfDecode : Prop :=
  ∀ (par : Params) (ch : Channel) (bytes : Bytes) (i : Instr), decode par ch bytes = .ok i →
    encode par i = bytes ∧ channelOf i = ch ∧ wellFormed par i = true

/-- R126, R105, R118, R181: words written out from the tables decode to the rows they stand for. All but the host
requests are under the default parameters (log 5). -/
def Obligations.WrittenOutWordsDecode : Prop :=
  decodeRequest [0x91#8, 0x02#8, 0x80#8, 0x00#8, 0x00#8] = .ok (.execute true 0x02#8 0x80#8 0x00#8 0x00#8 []) ∧
    decodeRequest [0xC2#8, 0x36#8, 0x31#8] = .ok (.sha256 true [0x36#8, 0x31#8]) ∧
    decodeRequest [0xD0#8] = .ok (.reservedOpD 0#4 []) ∧
    decode defaultParams .commandFrame [0x07#8, 0x02#8, 0x80#8, 0x00#8, 0x00#8, 0x09#8, 0xAD#8] = .ok .readId ∧
    decode defaultParams .responseFrame [0x04#8, 0x00#8, 0x03#8, 0x40#8] = .ok (.respStatus 0x04#8 0x00#8) ∧
    decode defaultParams (.controlWrite .wakeReg0) [0x00#8] = .ok .wakeWr ∧
    decode defaultParams (.controlWrite .devCommand) [0x02#8] = .ok .idleWr ∧
    decode defaultParams .statusByte [0xEE#8] = .ok .statusWatchdogExpiringSoon ∧
    decode defaultParams (.selfTestMask .sha) [0x20#8] = .ok (.stFailSha 0x20#8)
end

