-- ==== Sys2Proof/Laws/Crc.lean ====
section
/-! SUPPORT. The CRC unit and the framer: the repeated bit step, composition over sequences, lengths. -/

namespace Sys2Proof

/-- The bit steps are the repeated `crcBit` of R141. -/
theorem crcBits_eq_foldl (reg : Word16) (ds : List Bool) : crcBits reg ds = ds.foldl crcBit reg := by
  induction ds generalizing reg with
  | nil => rfl
  | cons d ds ih =>
    rw [crcBits, List.foldl_cons, crcBit]
    split <;> exact ih _

theorem crcBits_append (reg : Word16) (ds es : List Bool) :
    crcBits reg (ds ++ es) = crcBits (crcBits reg ds) es := by
  simp [crcBits_eq_foldl]

@[simp] theorem crcReg_nil : crcReg [] = 0#16 := rfl

theorem crcReg_append (s t : Bytes) : crcReg (s ++ t) = crcBits (crcReg s) (t.flatMap bitsLsbFirst) := by
  simp [crcReg, crcBits_append]

@[simp] theorem bitsLsbFirst_length (b : Byte) : (bitsLsbFirst b).length = 8 := rfl

@[simp] theorem crcOut_length (r : Word16) : (crcOut r).length = 2 := rfl

@[simp] theorem crc16_length (s : Bytes) : (crc16 s).length = 2 := rfl

/-- The last two bytes split off a frame that ends in two given bytes. -/
theorem frameBody_append {k : Bytes} (b : Bytes) (h : k.length = 2) : frameBody (b ++ k) = b := by
  simp [frameBody, h]

theorem frameCheckBytes_append {k : Bytes} (b : Bytes) (h : k.length = 2) : frameCheckBytes (b ++ k) = k := by
  simp [frameCheckBytes, h]

@[simp] theorem commandBody_length (opc p1 p2a p2b : Byte) (data : Bytes) :
    (commandBody opc p1 p2a p2b data).length = 5 + data.length := by
  simp [commandBody]; omega

@[simp] theorem commandFrame_length (opc p1 p2a p2b : Byte) (data : Bytes) :
    (commandFrame opc p1 p2a p2b data).length = 7 + data.length := by
  simp [commandFrame]; omega

@[simp] theorem hexText_length (s : Bytes) : (hexText s).length = 2 * s.length := by
  induction s with
  | nil => rfl
  | cons b bs ih => simp [hexText, ih]; omega

end Sys2Proof
end

