-- ==== Sys2Proof/Laws/State.lean ====
section
/-! SUPPORT. One lemma for each field of each named state update: what it becomes, or that it stays. -/

namespace Sys2Proof.Machine

/-! ### clearOperation -/

@[simp] theorem clearOperation_opc (s : State) : (clearOperation s).opc = 0#8 := rfl
@[simp] theorem clearOperation_p1 (s : State) : (clearOperation s).p1 = 0#8 := rfl
@[simp] theorem clearOperation_p2a (s : State) : (clearOperation s).p2a = 0#8 := rfl
@[simp] theorem clearOperation_p2b (s : State) : (clearOperation s).p2b = 0#8 := rfl
@[simp] theorem clearOperation_dlen (s : State) : (clearOperation s).dlen = 0#8 := rfl
@[simp] theorem clearOperation_cnt (s : State) : (clearOperation s).cnt = 0#8 := rfl
@[simp] theorem clearOperation_crc (s : State) : (clearOperation s).crc = 0#16 := rfl
@[simp] theorem clearOperation_rlen (s : State) : (clearOperation s).rlen = 0#8 := rfl
@[simp] theorem clearOperation_stb (s : State) : (clearOperation s).stb = 0#8 := rfl
@[simp] theorem clearOperation_blk (s : State) : (clearOperation s).blk = 0 := rfl
@[simp] theorem clearOperation_seq (s : State) : (clearOperation s).seq = s.seq := rfl
@[simp] theorem clearOperation_err (s : State) : (clearOperation s).err = .none := rfl
@[simp] theorem clearOperation_errInfo (s : State) : (clearOperation s).errInfo = 0#8 := rfl
@[simp] theorem clearOperation_errBus (s : State) : (clearOperation s).errBus = 0 := rfl
@[simp] theorem clearOperation_idlep (s : State) : (clearOperation s).idlep = false := rfl
@[simp] theorem clearOperation_wrap (s : State) : (clearOperation s).wrap = false := rfl
@[simp] theorem clearOperation_busy (s : State) : (clearOperation s).busy = s.busy := rfl
@[simp] theorem clearOperation_status (s : State) : (clearOperation s).status = none := rfl
@[simp] theorem clearOperation_cfgBus (s : State) : (clearOperation s).cfgBus = s.cfgBus := rfl
@[simp] theorem clearOperation_cfgDevaddr (s : State) : (clearOperation s).cfgDevaddr = s.cfgDevaddr := rfl
@[simp] theorem clearOperation_cfgSettle (s : State) : (clearOperation s).cfgSettle = s.cfgSettle := rfl
@[simp] theorem clearOperation_cfgCmdreg (s : State) : (clearOperation s).cfgCmdreg = s.cfgCmdreg := rfl
@[simp] theorem clearOperation_pwr (s : State) : (clearOperation s).pwr = s.pwr := rfl
@[simp] theorem clearOperation_data (s : State) : (clearOperation s).data = [] := rfl
@[simp] theorem clearOperation_txbuf (s : State) : (clearOperation s).txbuf = [] := rfl
@[simp] theorem clearOperation_rxbuf (s : State) : (clearOperation s).rxbuf = [] := rfl
@[simp] theorem clearOperation_msg (s : State) : (clearOperation s).msg = [] := rfl
@[simp] theorem clearOperation_hashText (s : State) : (clearOperation s).hashText = [] := rfl
@[simp] theorem clearOperation_hashHex (s : State) : (clearOperation s).hashHex = false := rfl
@[simp] theorem clearOperation_text (s : State) : (clearOperation s).text = [] := rfl
@[simp] theorem clearOperation_par (s : State) : (clearOperation s).par = s.par := rfl
@[simp] theorem clearOperation_wrAns (s : State) : (clearOperation s).wrAns = s.wrAns := rfl
@[simp] theorem clearOperation_rdAns (s : State) : (clearOperation s).rdAns = s.rdAns := rfl
@[simp] theorem clearOperation_inputs (s : State) : (clearOperation s).inputs = s.inputs := rfl
@[simp] theorem clearOperation_trace (s : State) : (clearOperation s).trace = s.trace := rfl
@[simp] theorem clearOperation_portReplies (s : State) : (clearOperation s).portReplies = s.portReplies := rfl

/-! ### accept -/

@[simp] theorem accept_opc (op : OpCode) (s : State) : (accept op s).opc = 0#8 := rfl
@[simp] theorem accept_p1 (op : OpCode) (s : State) : (accept op s).p1 = 0#8 := rfl
@[simp] theorem accept_p2a (op : OpCode) (s : State) : (accept op s).p2a = 0#8 := rfl
@[simp] theorem accept_p2b (op : OpCode) (s : State) : (accept op s).p2b = 0#8 := rfl
@[simp] theorem accept_dlen (op : OpCode) (s : State) : (accept op s).dlen = 0#8 := rfl
@[simp] theorem accept_cnt (op : OpCode) (s : State) : (accept op s).cnt = 0#8 := rfl
@[simp] theorem accept_crc (op : OpCode) (s : State) : (accept op s).crc = 0#16 := rfl
@[simp] theorem accept_rlen (op : OpCode) (s : State) : (accept op s).rlen = 0#8 := rfl
@[simp] theorem accept_stb (op : OpCode) (s : State) : (accept op s).stb = 0#8 := rfl
@[simp] theorem accept_blk (op : OpCode) (s : State) : (accept op s).blk = 0 := rfl
@[simp] theorem accept_seq (op : OpCode) (s : State) : (accept op s).seq = (⟨op, .off, .off, .off⟩ : Seq) := rfl
@[simp] theorem accept_err (op : OpCode) (s : State) : (accept op s).err = .none := rfl
@[simp] theorem accept_errInfo (op : OpCode) (s : State) : (accept op s).errInfo = 0#8 := rfl
@[simp] theorem accept_errBus (op : OpCode) (s : State) : (accept op s).errBus = 0 := rfl
@[simp] theorem accept_idlep (op : OpCode) (s : State) : (accept op s).idlep = false := rfl
@[simp] theorem accept_wrap (op : OpCode) (s : State) : (accept op s).wrap = false := rfl
@[simp] theorem accept_busy (op : OpCode) (s : State) : (accept op s).busy = true := rfl
@[simp] theorem accept_status (op : OpCode) (s : State) : (accept op s).status = none := rfl
@[simp] theorem accept_cfgBus (op : OpCode) (s : State) : (accept op s).cfgBus = s.cfgBus := rfl
@[simp] theorem accept_cfgDevaddr (op : OpCode) (s : State) : (accept op s).cfgDevaddr = s.cfgDevaddr := rfl
@[simp] theorem accept_cfgSettle (op : OpCode) (s : State) : (accept op s).cfgSettle = s.cfgSettle := rfl
@[simp] theorem accept_cfgCmdreg (op : OpCode) (s : State) : (accept op s).cfgCmdreg = s.cfgCmdreg := rfl
@[simp] theorem accept_pwr (op : OpCode) (s : State) : (accept op s).pwr = s.pwr := rfl
@[simp] theorem accept_data (op : OpCode) (s : State) : (accept op s).data = [] := rfl
@[simp] theorem accept_txbuf (op : OpCode) (s : State) : (accept op s).txbuf = [] := rfl
@[simp] theorem accept_rxbuf (op : OpCode) (s : State) : (accept op s).rxbuf = [] := rfl
@[simp] theorem accept_msg (op : OpCode) (s : State) : (accept op s).msg = [] := rfl
@[simp] theorem accept_hashText (op : OpCode) (s : State) : (accept op s).hashText = [] := rfl
@[simp] theorem accept_hashHex (op : OpCode) (s : State) : (accept op s).hashHex = false := rfl
@[simp] theorem accept_text (op : OpCode) (s : State) : (accept op s).text = [] := rfl
@[simp] theorem accept_par (op : OpCode) (s : State) : (accept op s).par = s.par := rfl
@[simp] theorem accept_wrAns (op : OpCode) (s : State) : (accept op s).wrAns = s.wrAns := rfl
@[simp] theorem accept_rdAns (op : OpCode) (s : State) : (accept op s).rdAns = s.rdAns := rfl
@[simp] theorem accept_inputs (op : OpCode) (s : State) : (accept op s).inputs = s.inputs := rfl
@[simp] theorem accept_trace (op : OpCode) (s : State) : (accept op s).trace = s.trace := rfl
@[simp] theorem accept_portReplies (op : OpCode) (s : State) : (accept op s).portReplies = s.portReplies := rfl

/-! ### clearExchange -/

@[simp] theorem clearExchange_opc (s : State) : (clearExchange s).opc = 0#8 := rfl
@[simp] theorem clearExchange_p1 (s : State) : (clearExchange s).p1 = 0#8 := rfl
@[simp] theorem clearExchange_p2a (s : State) : (clearExchange s).p2a = 0#8 := rfl
@[simp] theorem clearExchange_p2b (s : State) : (clearExchange s).p2b = 0#8 := rfl
@[simp] theorem clearExchange_dlen (s : State) : (clearExchange s).dlen = 0#8 := rfl
@[simp] theorem clearExchange_cnt (s : State) : (clearExchange s).cnt = 0#8 := rfl
@[simp] theorem clearExchange_crc (s : State) : (clearExchange s).crc = 0#16 := rfl
@[simp] theorem clearExchange_rlen (s : State) : (clearExchange s).rlen = 0#8 := rfl
@[simp] theorem clearExchange_stb (s : State) : (clearExchange s).stb = 0#8 := rfl
@[simp] theorem clearExchange_blk (s : State) : (clearExchange s).blk = s.blk := rfl
@[simp] theorem clearExchange_seq (s : State) : (clearExchange s).seq = s.seq := rfl
@[simp] theorem clearExchange_err (s : State) : (clearExchange s).err = s.err := rfl
@[simp] theorem clearExchange_errInfo (s : State) : (clearExchange s).errInfo = s.errInfo := rfl
@[simp] theorem clearExchange_errBus (s : State) : (clearExchange s).errBus = s.errBus := rfl
@[simp] theorem clearExchange_idlep (s : State) : (clearExchange s).idlep = false := rfl
@[simp] theorem clearExchange_wrap (s : State) : (clearExchange s).wrap = s.wrap := rfl
@[simp] theorem clearExchange_busy (s : State) : (clearExchange s).busy = s.busy := rfl
@[simp] theorem clearExchange_status (s : State) : (clearExchange s).status = s.status := rfl
@[simp] theorem clearExchange_cfgBus (s : State) : (clearExchange s).cfgBus = s.cfgBus := rfl
@[simp] theorem clearExchange_cfgDevaddr (s : State) : (clearExchange s).cfgDevaddr = s.cfgDevaddr := rfl
@[simp] theorem clearExchange_cfgSettle (s : State) : (clearExchange s).cfgSettle = s.cfgSettle := rfl
@[simp] theorem clearExchange_cfgCmdreg (s : State) : (clearExchange s).cfgCmdreg = s.cfgCmdreg := rfl
@[simp] theorem clearExchange_pwr (s : State) : (clearExchange s).pwr = s.pwr := rfl
@[simp] theorem clearExchange_data (s : State) : (clearExchange s).data = s.data := rfl
@[simp] theorem clearExchange_txbuf (s : State) : (clearExchange s).txbuf = [] := rfl
@[simp] theorem clearExchange_rxbuf (s : State) : (clearExchange s).rxbuf = [] := rfl
@[simp] theorem clearExchange_msg (s : State) : (clearExchange s).msg = s.msg := rfl
@[simp] theorem clearExchange_hashText (s : State) : (clearExchange s).hashText = s.hashText := rfl
@[simp] theorem clearExchange_hashHex (s : State) : (clearExchange s).hashHex = s.hashHex := rfl
@[simp] theorem clearExchange_text (s : State) : (clearExchange s).text = s.text := rfl
@[simp] theorem clearExchange_par (s : State) : (clearExchange s).par = s.par := rfl
@[simp] theorem clearExchange_wrAns (s : State) : (clearExchange s).wrAns = s.wrAns := rfl
@[simp] theorem clearExchange_rdAns (s : State) : (clearExchange s).rdAns = s.rdAns := rfl
@[simp] theorem clearExchange_inputs (s : State) : (clearExchange s).inputs = s.inputs := rfl
@[simp] theorem clearExchange_trace (s : State) : (clearExchange s).trace = s.trace := rfl
@[simp] theorem clearExchange_portReplies (s : State) : (clearExchange s).portReplies = s.portReplies := rfl

/-! ### loadOperands -/

@[simp] theorem loadOperands_opc (a b c d : Byte) (m : Bytes) (s : State) : (loadOperands a b c d m s).opc = a := rfl
@[simp] theorem loadOperands_p1 (a b c d : Byte) (m : Bytes) (s : State) : (loadOperands a b c d m s).p1 = b := rfl
@[simp] theorem loadOperands_p2a (a b c d : Byte) (m : Bytes) (s : State) : (loadOperands a b c d m s).p2a = c := rfl
@[simp] theorem loadOperands_p2b (a b c d : Byte) (m : Bytes) (s : State) : (loadOperands a b c d m s).p2b = d := rfl
@[simp] theorem loadOperands_dlen (a b c d : Byte) (m : Bytes) (s : State) : (loadOperands a b c d m s).dlen = BitVec.ofNat 8 m.length := rfl
@[simp] theorem loadOperands_cnt (a b c d : Byte) (m : Bytes) (s : State) : (loadOperands a b c d m s).cnt = s.cnt := rfl
@[simp] theorem loadOperands_crc (a b c d : Byte) (m : Bytes) (s : State) : (loadOperands a b c d m s).crc = s.crc := rfl
@[simp] theorem loadOperands_rlen (a b c d : Byte) (m : Bytes) (s : State) : (loadOperands a b c d m s).rlen = s.rlen := rfl
@[simp] theorem loadOperands_stb (a b c d : Byte) (m : Bytes) (s : State) : (loadOperands a b c d m s).stb = s.stb := rfl
@[simp] theorem loadOperands_blk (a b c d : Byte) (m : Bytes) (s : State) : (loadOperands a b c d m s).blk = s.blk := rfl
@[simp] theorem loadOperands_seq (a b c d : Byte) (m : Bytes) (s : State) : (loadOperands a b c d m s).seq = s.seq := rfl
@[simp] theorem loadOperands_err (a b c d : Byte) (m : Bytes) (s : State) : (loadOperands a b c d m s).err = s.err := rfl
@[simp] theorem loadOperands_errInfo (a b c d : Byte) (m : Bytes) (s : State) : (loadOperands a b c d m s).errInfo = s.errInfo := rfl
@[simp] theorem loadOperands_errBus (a b c d : Byte) (m : Bytes) (s : State) : (loadOperands a b c d m s).errBus = s.errBus := rfl
@[simp] theorem loadOperands_idlep (a b c d : Byte) (m : Bytes) (s : State) : (loadOperands a b c d m s).idlep = s.idlep := rfl
@[simp] theorem loadOperands_wrap (a b c d : Byte) (m : Bytes) (s : State) : (loadOperands a b c d m s).wrap = s.wrap := rfl
@[simp] theorem loadOperands_busy (a b c d : Byte) (m : Bytes) (s : State) : (loadOperands a b c d m s).busy = s.busy := rfl
@[simp] theorem loadOperands_status (a b c d : Byte) (m : Bytes) (s : State) : (loadOperands a b c d m s).status = s.status := rfl
@[simp] theorem loadOperands_cfgBus (a b c d : Byte) (m : Bytes) (s : State) : (loadOperands a b c d m s).cfgBus = s.cfgBus := rfl
@[simp] theorem loadOperands_cfgDevaddr (a b c d : Byte) (m : Bytes) (s : State) : (loadOperands a b c d m s).cfgDevaddr = s.cfgDevaddr := rfl
@[simp] theorem loadOperands_cfgSettle (a b c d : Byte) (m : Bytes) (s : State) : (loadOperands a b c d m s).cfgSettle = s.cfgSettle := rfl
@[simp] theorem loadOperands_cfgCmdreg (a b c d : Byte) (m : Bytes) (s : State) : (loadOperands a b c d m s).cfgCmdreg = s.cfgCmdreg := rfl
@[simp] theorem loadOperands_pwr (a b c d : Byte) (m : Bytes) (s : State) : (loadOperands a b c d m s).pwr = s.pwr := rfl
@[simp] theorem loadOperands_data (a b c d : Byte) (m : Bytes) (s : State) : (loadOperands a b c d m s).data = m := rfl
@[simp] theorem loadOperands_txbuf (a b c d : Byte) (m : Bytes) (s : State) : (loadOperands a b c d m s).txbuf = s.txbuf := rfl
@[simp] theorem loadOperands_rxbuf (a b c d : Byte) (m : Bytes) (s : State) : (loadOperands a b c d m s).rxbuf = s.rxbuf := rfl
@[simp] theorem loadOperands_msg (a b c d : Byte) (m : Bytes) (s : State) : (loadOperands a b c d m s).msg = s.msg := rfl
@[simp] theorem loadOperands_hashText (a b c d : Byte) (m : Bytes) (s : State) : (loadOperands a b c d m s).hashText = s.hashText := rfl
@[simp] theorem loadOperands_hashHex (a b c d : Byte) (m : Bytes) (s : State) : (loadOperands a b c d m s).hashHex = s.hashHex := rfl
@[simp] theorem loadOperands_text (a b c d : Byte) (m : Bytes) (s : State) : (loadOperands a b c d m s).text = s.text := rfl
@[simp] theorem loadOperands_par (a b c d : Byte) (m : Bytes) (s : State) : (loadOperands a b c d m s).par = s.par := rfl
@[simp] theorem loadOperands_wrAns (a b c d : Byte) (m : Bytes) (s : State) : (loadOperands a b c d m s).wrAns = s.wrAns := rfl
@[simp] theorem loadOperands_rdAns (a b c d : Byte) (m : Bytes) (s : State) : (loadOperands a b c d m s).rdAns = s.rdAns := rfl
@[simp] theorem loadOperands_inputs (a b c d : Byte) (m : Bytes) (s : State) : (loadOperands a b c d m s).inputs = s.inputs := rfl
@[simp] theorem loadOperands_trace (a b c d : Byte) (m : Bytes) (s : State) : (loadOperands a b c d m s).trace = s.trace := rfl
@[simp] theorem loadOperands_portReplies (a b c d : Byte) (m : Bytes) (s : State) : (loadOperands a b c d m s).portReplies = s.portReplies := rfl

/-! ### encodeFrame -/

@[simp] theorem encodeFrame_opc (s : State) : (encodeFrame s).opc = s.opc := rfl
@[simp] theorem encodeFrame_p1 (s : State) : (encodeFrame s).p1 = s.p1 := rfl
@[simp] theorem encodeFrame_p2a (s : State) : (encodeFrame s).p2a = s.p2a := rfl
@[simp] theorem encodeFrame_p2b (s : State) : (encodeFrame s).p2b = s.p2b := rfl
@[simp] theorem encodeFrame_dlen (s : State) : (encodeFrame s).dlen = s.dlen := rfl
@[simp] theorem encodeFrame_cnt (s : State) : (encodeFrame s).cnt = countByte s.data.length := rfl
@[simp] theorem encodeFrame_crc (s : State) : (encodeFrame s).crc = crcReg (commandBody s.opc s.p1 s.p2a s.p2b s.data) := rfl
@[simp] theorem encodeFrame_rlen (s : State) : (encodeFrame s).rlen = s.rlen := rfl
@[simp] theorem encodeFrame_stb (s : State) : (encodeFrame s).stb = s.stb := rfl
@[simp] theorem encodeFrame_blk (s : State) : (encodeFrame s).blk = s.blk := rfl
@[simp] theorem encodeFrame_seq (s : State) : (encodeFrame s).seq = s.seq := rfl
@[simp] theorem encodeFrame_err (s : State) : (encodeFrame s).err = s.err := rfl
@[simp] theorem encodeFrame_errInfo (s : State) : (encodeFrame s).errInfo = s.errInfo := rfl
@[simp] theorem encodeFrame_errBus (s : State) : (encodeFrame s).errBus = s.errBus := rfl
@[simp] theorem encodeFrame_idlep (s : State) : (encodeFrame s).idlep = s.idlep := rfl
@[simp] theorem encodeFrame_wrap (s : State) : (encodeFrame s).wrap = s.wrap := rfl
@[simp] theorem encodeFrame_busy (s : State) : (encodeFrame s).busy = s.busy := rfl
@[simp] theorem encodeFrame_status (s : State) : (encodeFrame s).status = s.status := rfl
@[simp] theorem encodeFrame_cfgBus (s : State) : (encodeFrame s).cfgBus = s.cfgBus := rfl
@[simp] theorem encodeFrame_cfgDevaddr (s : State) : (encodeFrame s).cfgDevaddr = s.cfgDevaddr := rfl
@[simp] theorem encodeFrame_cfgSettle (s : State) : (encodeFrame s).cfgSettle = s.cfgSettle := rfl
@[simp] theorem encodeFrame_cfgCmdreg (s : State) : (encodeFrame s).cfgCmdreg = s.cfgCmdreg := rfl
@[simp] theorem encodeFrame_pwr (s : State) : (encodeFrame s).pwr = s.pwr := rfl
@[simp] theorem encodeFrame_data (s : State) : (encodeFrame s).data = s.data := rfl
@[simp] theorem encodeFrame_txbuf (s : State) : (encodeFrame s).txbuf = commandFrame s.opc s.p1 s.p2a s.p2b s.data := rfl
@[simp] theorem encodeFrame_rxbuf (s : State) : (encodeFrame s).rxbuf = s.rxbuf := rfl
@[simp] theorem encodeFrame_msg (s : State) : (encodeFrame s).msg = s.msg := rfl
@[simp] theorem encodeFrame_hashText (s : State) : (encodeFrame s).hashText = s.hashText := rfl
@[simp] theorem encodeFrame_hashHex (s : State) : (encodeFrame s).hashHex = s.hashHex := rfl
@[simp] theorem encodeFrame_text (s : State) : (encodeFrame s).text = s.text := rfl
@[simp] theorem encodeFrame_par (s : State) : (encodeFrame s).par = s.par := rfl
@[simp] theorem encodeFrame_wrAns (s : State) : (encodeFrame s).wrAns = s.wrAns := rfl
@[simp] theorem encodeFrame_rdAns (s : State) : (encodeFrame s).rdAns = s.rdAns := rfl
@[simp] theorem encodeFrame_inputs (s : State) : (encodeFrame s).inputs = s.inputs := rfl
@[simp] theorem encodeFrame_trace (s : State) : (encodeFrame s).trace = s.trace := rfl
@[simp] theorem encodeFrame_portReplies (s : State) : (encodeFrame s).portReplies = s.portReplies := rfl

/-! ### settleDelay -/

@[simp] theorem settleDelay_opc (s : State) : (settleDelay s).opc = s.opc := rfl
@[simp] theorem settleDelay_p1 (s : State) : (settleDelay s).p1 = s.p1 := rfl
@[simp] theorem settleDelay_p2a (s : State) : (settleDelay s).p2a = s.p2a := rfl
@[simp] theorem settleDelay_p2b (s : State) : (settleDelay s).p2b = s.p2b := rfl
@[simp] theorem settleDelay_dlen (s : State) : (settleDelay s).dlen = s.dlen := rfl
@[simp] theorem settleDelay_cnt (s : State) : (settleDelay s).cnt = s.cnt := rfl
@[simp] theorem settleDelay_crc (s : State) : (settleDelay s).crc = s.crc := rfl
@[simp] theorem settleDelay_rlen (s : State) : (settleDelay s).rlen = s.rlen := rfl
@[simp] theorem settleDelay_stb (s : State) : (settleDelay s).stb = s.stb := rfl
@[simp] theorem settleDelay_blk (s : State) : (settleDelay s).blk = s.blk := rfl
@[simp] theorem settleDelay_seq (s : State) : (settleDelay s).seq = s.seq := rfl
@[simp] theorem settleDelay_err (s : State) : (settleDelay s).err = s.err := rfl
@[simp] theorem settleDelay_errInfo (s : State) : (settleDelay s).errInfo = s.errInfo := rfl
@[simp] theorem settleDelay_errBus (s : State) : (settleDelay s).errBus = s.errBus := rfl
@[simp] theorem settleDelay_idlep (s : State) : (settleDelay s).idlep = s.idlep := rfl
@[simp] theorem settleDelay_wrap (s : State) : (settleDelay s).wrap = s.wrap := rfl
@[simp] theorem settleDelay_busy (s : State) : (settleDelay s).busy = s.busy := rfl
@[simp] theorem settleDelay_status (s : State) : (settleDelay s).status = s.status := rfl
@[simp] theorem settleDelay_cfgBus (s : State) : (settleDelay s).cfgBus = s.cfgBus := rfl
@[simp] theorem settleDelay_cfgDevaddr (s : State) : (settleDelay s).cfgDevaddr = s.cfgDevaddr := rfl
@[simp] theorem settleDelay_cfgSettle (s : State) : (settleDelay s).cfgSettle = s.cfgSettle := rfl
@[simp] theorem settleDelay_cfgCmdreg (s : State) : (settleDelay s).cfgCmdreg = s.cfgCmdreg := rfl
@[simp] theorem settleDelay_pwr (s : State) : (settleDelay s).pwr = s.pwr := rfl
@[simp] theorem settleDelay_data (s : State) : (settleDelay s).data = s.data := rfl
@[simp] theorem settleDelay_txbuf (s : State) : (settleDelay s).txbuf = s.txbuf := rfl
@[simp] theorem settleDelay_rxbuf (s : State) : (settleDelay s).rxbuf = s.rxbuf := rfl
@[simp] theorem settleDelay_msg (s : State) : (settleDelay s).msg = s.msg := rfl
@[simp] theorem settleDelay_hashText (s : State) : (settleDelay s).hashText = s.hashText := rfl
@[simp] theorem settleDelay_hashHex (s : State) : (settleDelay s).hashHex = s.hashHex := rfl
@[simp] theorem settleDelay_text (s : State) : (settleDelay s).text = s.text := rfl
@[simp] theorem settleDelay_par (s : State) : (settleDelay s).par = s.par := rfl
@[simp] theorem settleDelay_wrAns (s : State) : (settleDelay s).wrAns = s.wrAns := rfl
@[simp] theorem settleDelay_rdAns (s : State) : (settleDelay s).rdAns = s.rdAns := rfl
@[simp] theorem settleDelay_inputs (s : State) : (settleDelay s).inputs = s.inputs := rfl
@[simp] theorem settleDelay_trace (s : State) : (settleDelay s).trace = s.trace ++ [.delay s.cfgSettle] := rfl
@[simp] theorem settleDelay_portReplies (s : State) : (settleDelay s).portReplies = s.portReplies := rfl

/-! ### deliver -/

@[simp] theorem deliver_opc (o : OpOutcome) (s : State) : (deliver o s).opc = s.opc := rfl
@[simp] theorem deliver_p1 (o : OpOutcome) (s : State) : (deliver o s).p1 = s.p1 := rfl
@[simp] theorem deliver_p2a (o : OpOutcome) (s : State) : (deliver o s).p2a = s.p2a := rfl
@[simp] theorem deliver_p2b (o : OpOutcome) (s : State) : (deliver o s).p2b = s.p2b := rfl
@[simp] theorem deliver_dlen (o : OpOutcome) (s : State) : (deliver o s).dlen = s.dlen := rfl
@[simp] theorem deliver_cnt (o : OpOutcome) (s : State) : (deliver o s).cnt = s.cnt := rfl
@[simp] theorem deliver_crc (o : OpOutcome) (s : State) : (deliver o s).crc = s.crc := rfl
@[simp] theorem deliver_rlen (o : OpOutcome) (s : State) : (deliver o s).rlen = s.rlen := rfl
@[simp] theorem deliver_stb (o : OpOutcome) (s : State) : (deliver o s).stb = s.stb := rfl
@[simp] theorem deliver_blk (o : OpOutcome) (s : State) : (deliver o s).blk = s.blk := rfl
@[simp] theorem deliver_seq (o : OpOutcome) (s : State) : (deliver o s).seq = Seq.zero := rfl
@[simp] theorem deliver_err (o : OpOutcome) (s : State) : (deliver o s).err = s.err := rfl
@[simp] theorem deliver_errInfo (o : OpOutcome) (s : State) : (deliver o s).errInfo = s.errInfo := rfl
@[simp] theorem deliver_errBus (o : OpOutcome) (s : State) : (deliver o s).errBus = s.errBus := rfl
@[simp] theorem deliver_idlep (o : OpOutcome) (s : State) : (deliver o s).idlep = s.idlep := rfl
@[simp] theorem deliver_wrap (o : OpOutcome) (s : State) : (deliver o s).wrap = s.wrap := rfl
@[simp] theorem deliver_busy (o : OpOutcome) (s : State) : (deliver o s).busy = false := rfl
@[simp] theorem deliver_status (o : OpOutcome) (s : State) : (deliver o s).status = s.status := rfl
@[simp] theorem deliver_cfgBus (o : OpOutcome) (s : State) : (deliver o s).cfgBus = s.cfgBus := rfl
@[simp] theorem deliver_cfgDevaddr (o : OpOutcome) (s : State) : (deliver o s).cfgDevaddr = s.cfgDevaddr := rfl
@[simp] theorem deliver_cfgSettle (o : OpOutcome) (s : State) : (deliver o s).cfgSettle = s.cfgSettle := rfl
@[simp] theorem deliver_cfgCmdreg (o : OpOutcome) (s : State) : (deliver o s).cfgCmdreg = s.cfgCmdreg := rfl
@[simp] theorem deliver_pwr (o : OpOutcome) (s : State) : (deliver o s).pwr = s.pwr := rfl
@[simp] theorem deliver_data (o : OpOutcome) (s : State) : (deliver o s).data = s.data := rfl
@[simp] theorem deliver_txbuf (o : OpOutcome) (s : State) : (deliver o s).txbuf = s.txbuf := rfl
@[simp] theorem deliver_rxbuf (o : OpOutcome) (s : State) : (deliver o s).rxbuf = s.rxbuf := rfl
@[simp] theorem deliver_msg (o : OpOutcome) (s : State) : (deliver o s).msg = s.msg := rfl
@[simp] theorem deliver_hashText (o : OpOutcome) (s : State) : (deliver o s).hashText = s.hashText := rfl
@[simp] theorem deliver_hashHex (o : OpOutcome) (s : State) : (deliver o s).hashHex = s.hashHex := rfl
@[simp] theorem deliver_text (o : OpOutcome) (s : State) : (deliver o s).text = s.text := rfl
@[simp] theorem deliver_par (o : OpOutcome) (s : State) : (deliver o s).par = s.par := rfl
@[simp] theorem deliver_wrAns (o : OpOutcome) (s : State) : (deliver o s).wrAns = s.wrAns := rfl
@[simp] theorem deliver_rdAns (o : OpOutcome) (s : State) : (deliver o s).rdAns = s.rdAns := rfl
@[simp] theorem deliver_inputs (o : OpOutcome) (s : State) : (deliver o s).inputs = s.inputs := rfl
@[simp] theorem deliver_trace (o : OpOutcome) (s : State) : (deliver o s).trace = s.trace ++ [.outcome o] := rfl
@[simp] theorem deliver_portReplies (o : OpOutcome) (s : State) : (deliver o s).portReplies = s.portReplies := rfl

/-! ### advanceX -/

@[simp] theorem advanceX_opc (s : State) : (advanceX s).opc = s.opc := rfl
@[simp] theorem advanceX_p1 (s : State) : (advanceX s).p1 = s.p1 := rfl
@[simp] theorem advanceX_p2a (s : State) : (advanceX s).p2a = s.p2a := rfl
@[simp] theorem advanceX_p2b (s : State) : (advanceX s).p2b = s.p2b := rfl
@[simp] theorem advanceX_dlen (s : State) : (advanceX s).dlen = s.dlen := rfl
@[simp] theorem advanceX_cnt (s : State) : (advanceX s).cnt = s.cnt := rfl
@[simp] theorem advanceX_crc (s : State) : (advanceX s).crc = s.crc := rfl
@[simp] theorem advanceX_rlen (s : State) : (advanceX s).rlen = s.rlen := rfl
@[simp] theorem advanceX_stb (s : State) : (advanceX s).stb = s.stb := rfl
@[simp] theorem advanceX_blk (s : State) : (advanceX s).blk = s.blk := rfl
@[simp] theorem advanceX_seq (s : State) : (advanceX s).seq = (⟨s.seq.op, s.seq.l, xNext s.seq.x, s.seq.w⟩ : Seq) := rfl
@[simp] theorem advanceX_err (s : State) : (advanceX s).err = s.err := rfl
@[simp] theorem advanceX_errInfo (s : State) : (advanceX s).errInfo = s.errInfo := rfl
@[simp] theorem advanceX_errBus (s : State) : (advanceX s).errBus = s.errBus := rfl
@[simp] theorem advanceX_idlep (s : State) : (advanceX s).idlep = s.idlep := rfl
@[simp] theorem advanceX_wrap (s : State) : (advanceX s).wrap = s.wrap := rfl
@[simp] theorem advanceX_busy (s : State) : (advanceX s).busy = s.busy := rfl
@[simp] theorem advanceX_status (s : State) : (advanceX s).status = s.status := rfl
@[simp] theorem advanceX_cfgBus (s : State) : (advanceX s).cfgBus = s.cfgBus := rfl
@[simp] theorem advanceX_cfgDevaddr (s : State) : (advanceX s).cfgDevaddr = s.cfgDevaddr := rfl
@[simp] theorem advanceX_cfgSettle (s : State) : (advanceX s).cfgSettle = s.cfgSettle := rfl
@[simp] theorem advanceX_cfgCmdreg (s : State) : (advanceX s).cfgCmdreg = s.cfgCmdreg := rfl
@[simp] theorem advanceX_pwr (s : State) : (advanceX s).pwr = s.pwr := rfl
@[simp] theorem advanceX_data (s : State) : (advanceX s).data = s.data := rfl
@[simp] theorem advanceX_txbuf (s : State) : (advanceX s).txbuf = s.txbuf := rfl
@[simp] theorem advanceX_rxbuf (s : State) : (advanceX s).rxbuf = s.rxbuf := rfl
@[simp] theorem advanceX_msg (s : State) : (advanceX s).msg = s.msg := rfl
@[simp] theorem advanceX_hashText (s : State) : (advanceX s).hashText = s.hashText := rfl
@[simp] theorem advanceX_hashHex (s : State) : (advanceX s).hashHex = s.hashHex := rfl
@[simp] theorem advanceX_text (s : State) : (advanceX s).text = s.text := rfl
@[simp] theorem advanceX_par (s : State) : (advanceX s).par = s.par := rfl
@[simp] theorem advanceX_wrAns (s : State) : (advanceX s).wrAns = s.wrAns := rfl
@[simp] theorem advanceX_rdAns (s : State) : (advanceX s).rdAns = s.rdAns := rfl
@[simp] theorem advanceX_inputs (s : State) : (advanceX s).inputs = s.inputs := rfl
@[simp] theorem advanceX_trace (s : State) : (advanceX s).trace = s.trace := rfl
@[simp] theorem advanceX_portReplies (s : State) : (advanceX s).portReplies = s.portReplies := rfl

/-! ### advanceW -/

@[simp] theorem advanceW_opc (s : State) : (advanceW s).opc = s.opc := rfl
@[simp] theorem advanceW_p1 (s : State) : (advanceW s).p1 = s.p1 := rfl
@[simp] theorem advanceW_p2a (s : State) : (advanceW s).p2a = s.p2a := rfl
@[simp] theorem advanceW_p2b (s : State) : (advanceW s).p2b = s.p2b := rfl
@[simp] theorem advanceW_dlen (s : State) : (advanceW s).dlen = s.dlen := rfl
@[simp] theorem advanceW_cnt (s : State) : (advanceW s).cnt = s.cnt := rfl
@[simp] theorem advanceW_crc (s : State) : (advanceW s).crc = s.crc := rfl
@[simp] theorem advanceW_rlen (s : State) : (advanceW s).rlen = s.rlen := rfl
@[simp] theorem advanceW_stb (s : State) : (advanceW s).stb = s.stb := rfl
@[simp] theorem advanceW_blk (s : State) : (advanceW s).blk = s.blk := rfl
@[simp] theorem advanceW_seq (s : State) : (advanceW s).seq = (⟨s.seq.op, s.seq.l, s.seq.x, wNext s.seq.w⟩ : Seq) := rfl
@[simp] theorem advanceW_err (s : State) : (advanceW s).err = s.err := rfl
@[simp] theorem advanceW_errInfo (s : State) : (advanceW s).errInfo = s.errInfo := rfl
@[simp] theorem advanceW_errBus (s : State) : (advanceW s).errBus = s.errBus := rfl
@[simp] theorem advanceW_idlep (s : State) : (advanceW s).idlep = s.idlep := rfl
@[simp] theorem advanceW_wrap (s : State) : (advanceW s).wrap = s.wrap := rfl
@[simp] theorem advanceW_busy (s : State) : (advanceW s).busy = s.busy := rfl
@[simp] theorem advanceW_status (s : State) : (advanceW s).status = s.status := rfl
@[simp] theorem advanceW_cfgBus (s : State) : (advanceW s).cfgBus = s.cfgBus := rfl
@[simp] theorem advanceW_cfgDevaddr (s : State) : (advanceW s).cfgDevaddr = s.cfgDevaddr := rfl
@[simp] theorem advanceW_cfgSettle (s : State) : (advanceW s).cfgSettle = s.cfgSettle := rfl
@[simp] theorem advanceW_cfgCmdreg (s : State) : (advanceW s).cfgCmdreg = s.cfgCmdreg := rfl
@[simp] theorem advanceW_pwr (s : State) : (advanceW s).pwr = s.pwr := rfl
@[simp] theorem advanceW_data (s : State) : (advanceW s).data = s.data := rfl
@[simp] theorem advanceW_txbuf (s : State) : (advanceW s).txbuf = s.txbuf := rfl
@[simp] theorem advanceW_rxbuf (s : State) : (advanceW s).rxbuf = s.rxbuf := rfl
@[simp] theorem advanceW_msg (s : State) : (advanceW s).msg = s.msg := rfl
@[simp] theorem advanceW_hashText (s : State) : (advanceW s).hashText = s.hashText := rfl
@[simp] theorem advanceW_hashHex (s : State) : (advanceW s).hashHex = s.hashHex := rfl
@[simp] theorem advanceW_text (s : State) : (advanceW s).text = s.text := rfl
@[simp] theorem advanceW_par (s : State) : (advanceW s).par = s.par := rfl
@[simp] theorem advanceW_wrAns (s : State) : (advanceW s).wrAns = s.wrAns := rfl
@[simp] theorem advanceW_rdAns (s : State) : (advanceW s).rdAns = s.rdAns := rfl
@[simp] theorem advanceW_inputs (s : State) : (advanceW s).inputs = s.inputs := rfl
@[simp] theorem advanceW_trace (s : State) : (advanceW s).trace = s.trace := rfl
@[simp] theorem advanceW_portReplies (s : State) : (advanceW s).portReplies = s.portReplies := rfl

/-! ### enterExit -/

@[simp] theorem enterExit_opc (s : State) : (enterExit s).opc = s.opc := rfl
@[simp] theorem enterExit_p1 (s : State) : (enterExit s).p1 = s.p1 := rfl
@[simp] theorem enterExit_p2a (s : State) : (enterExit s).p2a = s.p2a := rfl
@[simp] theorem enterExit_p2b (s : State) : (enterExit s).p2b = s.p2b := rfl
@[simp] theorem enterExit_dlen (s : State) : (enterExit s).dlen = s.dlen := rfl
@[simp] theorem enterExit_cnt (s : State) : (enterExit s).cnt = s.cnt := rfl
@[simp] theorem enterExit_crc (s : State) : (enterExit s).crc = s.crc := rfl
@[simp] theorem enterExit_rlen (s : State) : (enterExit s).rlen = s.rlen := rfl
@[simp] theorem enterExit_stb (s : State) : (enterExit s).stb = s.stb := rfl
@[simp] theorem enterExit_blk (s : State) : (enterExit s).blk = s.blk := rfl
@[simp] theorem enterExit_seq (s : State) : (enterExit s).seq = (⟨s.seq.op, s.seq.l, .xExit, if s.idlep then .iWrite else .off⟩ : Seq) := rfl
@[simp] theorem enterExit_err (s : State) : (enterExit s).err = s.err := rfl
@[simp] theorem enterExit_errInfo (s : State) : (enterExit s).errInfo = s.errInfo := rfl
@[simp] theorem enterExit_errBus (s : State) : (enterExit s).errBus = s.errBus := rfl
@[simp] theorem enterExit_idlep (s : State) : (enterExit s).idlep = s.idlep := rfl
@[simp] theorem enterExit_wrap (s : State) : (enterExit s).wrap = s.wrap := rfl
@[simp] theorem enterExit_busy (s : State) : (enterExit s).busy = s.busy := rfl
@[simp] theorem enterExit_status (s : State) : (enterExit s).status = s.status := rfl
@[simp] theorem enterExit_cfgBus (s : State) : (enterExit s).cfgBus = s.cfgBus := rfl
@[simp] theorem enterExit_cfgDevaddr (s : State) : (enterExit s).cfgDevaddr = s.cfgDevaddr := rfl
@[simp] theorem enterExit_cfgSettle (s : State) : (enterExit s).cfgSettle = s.cfgSettle := rfl
@[simp] theorem enterExit_cfgCmdreg (s : State) : (enterExit s).cfgCmdreg = s.cfgCmdreg := rfl
@[simp] theorem enterExit_pwr (s : State) : (enterExit s).pwr = s.pwr := rfl
@[simp] theorem enterExit_data (s : State) : (enterExit s).data = s.data := rfl
@[simp] theorem enterExit_txbuf (s : State) : (enterExit s).txbuf = s.txbuf := rfl
@[simp] theorem enterExit_rxbuf (s : State) : (enterExit s).rxbuf = s.rxbuf := rfl
@[simp] theorem enterExit_msg (s : State) : (enterExit s).msg = s.msg := rfl
@[simp] theorem enterExit_hashText (s : State) : (enterExit s).hashText = s.hashText := rfl
@[simp] theorem enterExit_hashHex (s : State) : (enterExit s).hashHex = s.hashHex := rfl
@[simp] theorem enterExit_text (s : State) : (enterExit s).text = s.text := rfl
@[simp] theorem enterExit_par (s : State) : (enterExit s).par = s.par := rfl
@[simp] theorem enterExit_wrAns (s : State) : (enterExit s).wrAns = s.wrAns := rfl
@[simp] theorem enterExit_rdAns (s : State) : (enterExit s).rdAns = s.rdAns := rfl
@[simp] theorem enterExit_inputs (s : State) : (enterExit s).inputs = s.inputs := rfl
@[simp] theorem enterExit_trace (s : State) : (enterExit s).trace = s.trace := rfl
@[simp] theorem enterExit_portReplies (s : State) : (enterExit s).portReplies = s.portReplies := rfl

/-! ### enterSleep -/

@[simp] theorem enterSleep_opc (s : State) : (enterSleep s).opc = s.opc := rfl
@[simp] theorem enterSleep_p1 (s : State) : (enterSleep s).p1 = s.p1 := rfl
@[simp] theorem enterSleep_p2a (s : State) : (enterSleep s).p2a = s.p2a := rfl
@[simp] theorem enterSleep_p2b (s : State) : (enterSleep s).p2b = s.p2b := rfl
@[simp] theorem enterSleep_dlen (s : State) : (enterSleep s).dlen = s.dlen := rfl
@[simp] theorem enterSleep_cnt (s : State) : (enterSleep s).cnt = s.cnt := rfl
@[simp] theorem enterSleep_crc (s : State) : (enterSleep s).crc = s.crc := rfl
@[simp] theorem enterSleep_rlen (s : State) : (enterSleep s).rlen = s.rlen := rfl
@[simp] theorem enterSleep_stb (s : State) : (enterSleep s).stb = s.stb := rfl
@[simp] theorem enterSleep_blk (s : State) : (enterSleep s).blk = s.blk := rfl
@[simp] theorem enterSleep_seq (s : State) : (enterSleep s).seq = (⟨s.seq.op, .lSleep, .off, .sWrite⟩ : Seq) := rfl
@[simp] theorem enterSleep_err (s : State) : (enterSleep s).err = s.err := rfl
@[simp] theorem enterSleep_errInfo (s : State) : (enterSleep s).errInfo = s.errInfo := rfl
@[simp] theorem enterSleep_errBus (s : State) : (enterSleep s).errBus = s.errBus := rfl
@[simp] theorem enterSleep_idlep (s : State) : (enterSleep s).idlep = s.idlep := rfl
@[simp] theorem enterSleep_wrap (s : State) : (enterSleep s).wrap = s.wrap := rfl
@[simp] theorem enterSleep_busy (s : State) : (enterSleep s).busy = s.busy := rfl
@[simp] theorem enterSleep_status (s : State) : (enterSleep s).status = s.status := rfl
@[simp] theorem enterSleep_cfgBus (s : State) : (enterSleep s).cfgBus = s.cfgBus := rfl
@[simp] theorem enterSleep_cfgDevaddr (s : State) : (enterSleep s).cfgDevaddr = s.cfgDevaddr := rfl
@[simp] theorem enterSleep_cfgSettle (s : State) : (enterSleep s).cfgSettle = s.cfgSettle := rfl
@[simp] theorem enterSleep_cfgCmdreg (s : State) : (enterSleep s).cfgCmdreg = s.cfgCmdreg := rfl
@[simp] theorem enterSleep_pwr (s : State) : (enterSleep s).pwr = s.pwr := rfl
@[simp] theorem enterSleep_data (s : State) : (enterSleep s).data = s.data := rfl
@[simp] theorem enterSleep_txbuf (s : State) : (enterSleep s).txbuf = s.txbuf := rfl
@[simp] theorem enterSleep_rxbuf (s : State) : (enterSleep s).rxbuf = s.rxbuf := rfl
@[simp] theorem enterSleep_msg (s : State) : (enterSleep s).msg = s.msg := rfl
@[simp] theorem enterSleep_hashText (s : State) : (enterSleep s).hashText = s.hashText := rfl
@[simp] theorem enterSleep_hashHex (s : State) : (enterSleep s).hashHex = s.hashHex := rfl
@[simp] theorem enterSleep_text (s : State) : (enterSleep s).text = s.text := rfl
@[simp] theorem enterSleep_par (s : State) : (enterSleep s).par = s.par := rfl
@[simp] theorem enterSleep_wrAns (s : State) : (enterSleep s).wrAns = s.wrAns := rfl
@[simp] theorem enterSleep_rdAns (s : State) : (enterSleep s).rdAns = s.rdAns := rfl
@[simp] theorem enterSleep_inputs (s : State) : (enterSleep s).inputs = s.inputs := rfl
@[simp] theorem enterSleep_trace (s : State) : (enterSleep s).trace = s.trace := rfl
@[simp] theorem enterSleep_portReplies (s : State) : (enterSleep s).portReplies = s.portReplies := rfl

/-! ### enterFormat -/

@[simp] theorem enterFormat_opc (s : State) : (enterFormat s).opc = s.opc := rfl
@[simp] theorem enterFormat_p1 (s : State) : (enterFormat s).p1 = s.p1 := rfl
@[simp] theorem enterFormat_p2a (s : State) : (enterFormat s).p2a = s.p2a := rfl
@[simp] theorem enterFormat_p2b (s : State) : (enterFormat s).p2b = s.p2b := rfl
@[simp] theorem enterFormat_dlen (s : State) : (enterFormat s).dlen = s.dlen := rfl
@[simp] theorem enterFormat_cnt (s : State) : (enterFormat s).cnt = s.cnt := rfl
@[simp] theorem enterFormat_crc (s : State) : (enterFormat s).crc = s.crc := rfl
@[simp] theorem enterFormat_rlen (s : State) : (enterFormat s).rlen = s.rlen := rfl
@[simp] theorem enterFormat_stb (s : State) : (enterFormat s).stb = s.stb := rfl
@[simp] theorem enterFormat_blk (s : State) : (enterFormat s).blk = s.blk := rfl
@[simp] theorem enterFormat_seq (s : State) : (enterFormat s).seq = (⟨s.seq.op, .lFormat, .off, .off⟩ : Seq) := rfl
@[simp] theorem enterFormat_err (s : State) : (enterFormat s).err = s.err := rfl
@[simp] theorem enterFormat_errInfo (s : State) : (enterFormat s).errInfo = s.errInfo := rfl
@[simp] theorem enterFormat_errBus (s : State) : (enterFormat s).errBus = s.errBus := rfl
@[simp] theorem enterFormat_idlep (s : State) : (enterFormat s).idlep = s.idlep := rfl
@[simp] theorem enterFormat_wrap (s : State) : (enterFormat s).wrap = s.wrap := rfl
@[simp] theorem enterFormat_busy (s : State) : (enterFormat s).busy = s.busy := rfl
@[simp] theorem enterFormat_status (s : State) : (enterFormat s).status = s.status := rfl
@[simp] theorem enterFormat_cfgBus (s : State) : (enterFormat s).cfgBus = s.cfgBus := rfl
@[simp] theorem enterFormat_cfgDevaddr (s : State) : (enterFormat s).cfgDevaddr = s.cfgDevaddr := rfl
@[simp] theorem enterFormat_cfgSettle (s : State) : (enterFormat s).cfgSettle = s.cfgSettle := rfl
@[simp] theorem enterFormat_cfgCmdreg (s : State) : (enterFormat s).cfgCmdreg = s.cfgCmdreg := rfl
@[simp] theorem enterFormat_pwr (s : State) : (enterFormat s).pwr = s.pwr := rfl
@[simp] theorem enterFormat_data (s : State) : (enterFormat s).data = s.data := rfl
@[simp] theorem enterFormat_txbuf (s : State) : (enterFormat s).txbuf = s.txbuf := rfl
@[simp] theorem enterFormat_rxbuf (s : State) : (enterFormat s).rxbuf = s.rxbuf := rfl
@[simp] theorem enterFormat_msg (s : State) : (enterFormat s).msg = s.msg := rfl
@[simp] theorem enterFormat_hashText (s : State) : (enterFormat s).hashText = s.hashText := rfl
@[simp] theorem enterFormat_hashHex (s : State) : (enterFormat s).hashHex = s.hashHex := rfl
@[simp] theorem enterFormat_text (s : State) : (enterFormat s).text = s.text := rfl
@[simp] theorem enterFormat_par (s : State) : (enterFormat s).par = s.par := rfl
@[simp] theorem enterFormat_wrAns (s : State) : (enterFormat s).wrAns = s.wrAns := rfl
@[simp] theorem enterFormat_rdAns (s : State) : (enterFormat s).rdAns = s.rdAns := rfl
@[simp] theorem enterFormat_inputs (s : State) : (enterFormat s).inputs = s.inputs := rfl
@[simp] theorem enterFormat_trace (s : State) : (enterFormat s).trace = s.trace := rfl
@[simp] theorem enterFormat_portReplies (s : State) : (enterFormat s).portReplies = s.portReplies := rfl

/-! ### beginExecute -/

@[simp] theorem beginExecute_opc (a b c d : Byte) (m : Bytes) (w : Bool) (s : State) : (beginExecute a b c d m w s).opc = a := rfl
@[simp] theorem beginExecute_p1 (a b c d : Byte) (m : Bytes) (w : Bool) (s : State) : (beginExecute a b c d m w s).p1 = b := rfl
@[simp] theorem beginExecute_p2a (a b c d : Byte) (m : Bytes) (w : Bool) (s : State) : (beginExecute a b c d m w s).p2a = c := rfl
@[simp] theorem beginExecute_p2b (a b c d : Byte) (m : Bytes) (w : Bool) (s : State) : (beginExecute a b c d m w s).p2b = d := rfl
@[simp] theorem beginExecute_dlen (a b c d : Byte) (m : Bytes) (w : Bool) (s : State) : (beginExecute a b c d m w s).dlen = BitVec.ofNat 8 m.length := rfl
@[simp] theorem beginExecute_cnt (a b c d : Byte) (m : Bytes) (w : Bool) (s : State) : (beginExecute a b c d m w s).cnt = 0#8 := rfl
@[simp] theorem beginExecute_crc (a b c d : Byte) (m : Bytes) (w : Bool) (s : State) : (beginExecute a b c d m w s).crc = 0#16 := rfl
@[simp] theorem beginExecute_rlen (a b c d : Byte) (m : Bytes) (w : Bool) (s : State) : (beginExecute a b c d m w s).rlen = 0#8 := rfl
@[simp] theorem beginExecute_stb (a b c d : Byte) (m : Bytes) (w : Bool) (s : State) : (beginExecute a b c d m w s).stb = 0#8 := rfl
@[simp] theorem beginExecute_blk (a b c d : Byte) (m : Bytes) (w : Bool) (s : State) : (beginExecute a b c d m w s).blk = s.blk := rfl
@[simp] theorem beginExecute_seq (a b c d : Byte) (m : Bytes) (w : Bool) (s : State) : (beginExecute a b c d m w s).seq = (⟨s.seq.op, s.seq.l, .xWake, if w then .wWrite else .off⟩ : Seq) := rfl
@[simp] theorem beginExecute_err (a b c d : Byte) (m : Bytes) (w : Bool) (s : State) : (beginExecute a b c d m w s).err = s.err := rfl
@[simp] theorem beginExecute_errInfo (a b c d : Byte) (m : Bytes) (w : Bool) (s : State) : (beginExecute a b c d m w s).errInfo = s.errInfo := rfl
@[simp] theorem beginExecute_errBus (a b c d : Byte) (m : Bytes) (w : Bool) (s : State) : (beginExecute a b c d m w s).errBus = s.errBus := rfl
@[simp] theorem beginExecute_idlep (a b c d : Byte) (m : Bytes) (w : Bool) (s : State) : (beginExecute a b c d m w s).idlep = false := rfl
@[simp] theorem beginExecute_wrap (a b c d : Byte) (m : Bytes) (w : Bool) (s : State) : (beginExecute a b c d m w s).wrap = w := rfl
@[simp] theorem beginExecute_busy (a b c d : Byte) (m : Bytes) (w : Bool) (s : State) : (beginExecute a b c d m w s).busy = s.busy := rfl
@[simp] theorem beginExecute_status (a b c d : Byte) (m : Bytes) (w : Bool) (s : State) : (beginExecute a b c d m w s).status = s.status := rfl
@[simp] theorem beginExecute_cfgBus (a b c d : Byte) (m : Bytes) (w : Bool) (s : State) : (beginExecute a b c d m w s).cfgBus = s.cfgBus := rfl
@[simp] theorem beginExecute_cfgDevaddr (a b c d : Byte) (m : Bytes) (w : Bool) (s : State) : (beginExecute a b c d m w s).cfgDevaddr = s.cfgDevaddr := rfl
@[simp] theorem beginExecute_cfgSettle (a b c d : Byte) (m : Bytes) (w : Bool) (s : State) : (beginExecute a b c d m w s).cfgSettle = s.cfgSettle := rfl
@[simp] theorem beginExecute_cfgCmdreg (a b c d : Byte) (m : Bytes) (w : Bool) (s : State) : (beginExecute a b c d m w s).cfgCmdreg = s.cfgCmdreg := rfl
@[simp] theorem beginExecute_pwr (a b c d : Byte) (m : Bytes) (w : Bool) (s : State) : (beginExecute a b c d m w s).pwr = s.pwr := rfl
@[simp] theorem beginExecute_data (a b c d : Byte) (m : Bytes) (w : Bool) (s : State) : (beginExecute a b c d m w s).data = m := rfl
@[simp] theorem beginExecute_txbuf (a b c d : Byte) (m : Bytes) (w : Bool) (s : State) : (beginExecute a b c d m w s).txbuf = [] := rfl
@[simp] theorem beginExecute_rxbuf (a b c d : Byte) (m : Bytes) (w : Bool) (s : State) : (beginExecute a b c d m w s).rxbuf = [] := rfl
@[simp] theorem beginExecute_msg (a b c d : Byte) (m : Bytes) (w : Bool) (s : State) : (beginExecute a b c d m w s).msg = s.msg := rfl
@[simp] theorem beginExecute_hashText (a b c d : Byte) (m : Bytes) (w : Bool) (s : State) : (beginExecute a b c d m w s).hashText = s.hashText := rfl
@[simp] theorem beginExecute_hashHex (a b c d : Byte) (m : Bytes) (w : Bool) (s : State) : (beginExecute a b c d m w s).hashHex = s.hashHex := rfl
@[simp] theorem beginExecute_text (a b c d : Byte) (m : Bytes) (w : Bool) (s : State) : (beginExecute a b c d m w s).text = s.text := rfl
@[simp] theorem beginExecute_par (a b c d : Byte) (m : Bytes) (w : Bool) (s : State) : (beginExecute a b c d m w s).par = s.par := rfl
@[simp] theorem beginExecute_wrAns (a b c d : Byte) (m : Bytes) (w : Bool) (s : State) : (beginExecute a b c d m w s).wrAns = s.wrAns := rfl
@[simp] theorem beginExecute_rdAns (a b c d : Byte) (m : Bytes) (w : Bool) (s : State) : (beginExecute a b c d m w s).rdAns = s.rdAns := rfl
@[simp] theorem beginExecute_inputs (a b c d : Byte) (m : Bytes) (w : Bool) (s : State) : (beginExecute a b c d m w s).inputs = s.inputs := rfl
@[simp] theorem beginExecute_trace (a b c d : Byte) (m : Bytes) (w : Bool) (s : State) : (beginExecute a b c d m w s).trace = s.trace := rfl
@[simp] theorem beginExecute_portReplies (a b c d : Byte) (m : Bytes) (w : Bool) (s : State) : (beginExecute a b c d m w s).portReplies = s.portReplies := rfl

/-! ### beginLibExecute -/

@[simp] theorem beginLibExecute_opc (l : LStep) (a b c d : Byte) (m : Bytes) (s : State) : (beginLibExecute l a b c d m s).opc = a := rfl
@[simp] theorem beginLibExecute_p1 (l : LStep) (a b c d : Byte) (m : Bytes) (s : State) : (beginLibExecute l a b c d m s).p1 = b := rfl
@[simp] theorem beginLibExecute_p2a (l : LStep) (a b c d : Byte) (m : Bytes) (s : State) : (beginLibExecute l a b c d m s).p2a = c := rfl
@[simp] theorem beginLibExecute_p2b (l : LStep) (a b c d : Byte) (m : Bytes) (s : State) : (beginLibExecute l a b c d m s).p2b = d := rfl
@[simp] theorem beginLibExecute_dlen (l : LStep) (a b c d : Byte) (m : Bytes) (s : State) : (beginLibExecute l a b c d m s).dlen = BitVec.ofNat 8 m.length := rfl
@[simp] theorem beginLibExecute_cnt (l : LStep) (a b c d : Byte) (m : Bytes) (s : State) : (beginLibExecute l a b c d m s).cnt = 0#8 := rfl
@[simp] theorem beginLibExecute_crc (l : LStep) (a b c d : Byte) (m : Bytes) (s : State) : (beginLibExecute l a b c d m s).crc = 0#16 := rfl
@[simp] theorem beginLibExecute_rlen (l : LStep) (a b c d : Byte) (m : Bytes) (s : State) : (beginLibExecute l a b c d m s).rlen = 0#8 := rfl
@[simp] theorem beginLibExecute_stb (l : LStep) (a b c d : Byte) (m : Bytes) (s : State) : (beginLibExecute l a b c d m s).stb = 0#8 := rfl
@[simp] theorem beginLibExecute_blk (l : LStep) (a b c d : Byte) (m : Bytes) (s : State) : (beginLibExecute l a b c d m s).blk = s.blk := rfl
@[simp] theorem beginLibExecute_seq (l : LStep) (a b c d : Byte) (m : Bytes) (s : State) : (beginLibExecute l a b c d m s).seq = (⟨s.seq.op, l, .xWake, .wWrite⟩ : Seq) := rfl
@[simp] theorem beginLibExecute_err (l : LStep) (a b c d : Byte) (m : Bytes) (s : State) : (beginLibExecute l a b c d m s).err = s.err := rfl
@[simp] theorem beginLibExecute_errInfo (l : LStep) (a b c d : Byte) (m : Bytes) (s : State) : (beginLibExecute l a b c d m s).errInfo = s.errInfo := rfl
@[simp] theorem beginLibExecute_errBus (l : LStep) (a b c d : Byte) (m : Bytes) (s : State) : (beginLibExecute l a b c d m s).errBus = s.errBus := rfl
@[simp] theorem beginLibExecute_idlep (l : LStep) (a b c d : Byte) (m : Bytes) (s : State) : (beginLibExecute l a b c d m s).idlep = false := rfl
@[simp] theorem beginLibExecute_wrap (l : LStep) (a b c d : Byte) (m : Bytes) (s : State) : (beginLibExecute l a b c d m s).wrap = true := rfl
@[simp] theorem beginLibExecute_busy (l : LStep) (a b c d : Byte) (m : Bytes) (s : State) : (beginLibExecute l a b c d m s).busy = s.busy := rfl
@[simp] theorem beginLibExecute_status (l : LStep) (a b c d : Byte) (m : Bytes) (s : State) : (beginLibExecute l a b c d m s).status = s.status := rfl
@[simp] theorem beginLibExecute_cfgBus (l : LStep) (a b c d : Byte) (m : Bytes) (s : State) : (beginLibExecute l a b c d m s).cfgBus = s.cfgBus := rfl
@[simp] theorem beginLibExecute_cfgDevaddr (l : LStep) (a b c d : Byte) (m : Bytes) (s : State) : (beginLibExecute l a b c d m s).cfgDevaddr = s.cfgDevaddr := rfl
@[simp] theorem beginLibExecute_cfgSettle (l : LStep) (a b c d : Byte) (m : Bytes) (s : State) : (beginLibExecute l a b c d m s).cfgSettle = s.cfgSettle := rfl
@[simp] theorem beginLibExecute_cfgCmdreg (l : LStep) (a b c d : Byte) (m : Bytes) (s : State) : (beginLibExecute l a b c d m s).cfgCmdreg = s.cfgCmdreg := rfl
@[simp] theorem beginLibExecute_pwr (l : LStep) (a b c d : Byte) (m : Bytes) (s : State) : (beginLibExecute l a b c d m s).pwr = s.pwr := rfl
@[simp] theorem beginLibExecute_data (l : LStep) (a b c d : Byte) (m : Bytes) (s : State) : (beginLibExecute l a b c d m s).data = m := rfl
@[simp] theorem beginLibExecute_txbuf (l : LStep) (a b c d : Byte) (m : Bytes) (s : State) : (beginLibExecute l a b c d m s).txbuf = [] := rfl
@[simp] theorem beginLibExecute_rxbuf (l : LStep) (a b c d : Byte) (m : Bytes) (s : State) : (beginLibExecute l a b c d m s).rxbuf = [] := rfl
@[simp] theorem beginLibExecute_msg (l : LStep) (a b c d : Byte) (m : Bytes) (s : State) : (beginLibExecute l a b c d m s).msg = s.msg := rfl
@[simp] theorem beginLibExecute_hashText (l : LStep) (a b c d : Byte) (m : Bytes) (s : State) : (beginLibExecute l a b c d m s).hashText = s.hashText := rfl
@[simp] theorem beginLibExecute_hashHex (l : LStep) (a b c d : Byte) (m : Bytes) (s : State) : (beginLibExecute l a b c d m s).hashHex = s.hashHex := rfl
@[simp] theorem beginLibExecute_text (l : LStep) (a b c d : Byte) (m : Bytes) (s : State) : (beginLibExecute l a b c d m s).text = s.text := rfl
@[simp] theorem beginLibExecute_par (l : LStep) (a b c d : Byte) (m : Bytes) (s : State) : (beginLibExecute l a b c d m s).par = s.par := rfl
@[simp] theorem beginLibExecute_wrAns (l : LStep) (a b c d : Byte) (m : Bytes) (s : State) : (beginLibExecute l a b c d m s).wrAns = s.wrAns := rfl
@[simp] theorem beginLibExecute_rdAns (l : LStep) (a b c d : Byte) (m : Bytes) (s : State) : (beginLibExecute l a b c d m s).rdAns = s.rdAns := rfl
@[simp] theorem beginLibExecute_inputs (l : LStep) (a b c d : Byte) (m : Bytes) (s : State) : (beginLibExecute l a b c d m s).inputs = s.inputs := rfl
@[simp] theorem beginLibExecute_trace (l : LStep) (a b c d : Byte) (m : Bytes) (s : State) : (beginLibExecute l a b c d m s).trace = s.trace := rfl
@[simp] theorem beginLibExecute_portReplies (l : LStep) (a b c d : Byte) (m : Bytes) (s : State) : (beginLibExecute l a b c d m s).portReplies = s.portReplies := rfl

/-! ### writeStatus -/

@[simp] theorem writeStatus_opc (st : Status) (b : Byte) (s : State) : (writeStatus st b s).opc = s.opc := rfl
@[simp] theorem writeStatus_p1 (st : Status) (b : Byte) (s : State) : (writeStatus st b s).p1 = s.p1 := rfl
@[simp] theorem writeStatus_p2a (st : Status) (b : Byte) (s : State) : (writeStatus st b s).p2a = s.p2a := rfl
@[simp] theorem writeStatus_p2b (st : Status) (b : Byte) (s : State) : (writeStatus st b s).p2b = s.p2b := rfl
@[simp] theorem writeStatus_dlen (st : Status) (b : Byte) (s : State) : (writeStatus st b s).dlen = s.dlen := rfl
@[simp] theorem writeStatus_cnt (st : Status) (b : Byte) (s : State) : (writeStatus st b s).cnt = s.cnt := rfl
@[simp] theorem writeStatus_crc (st : Status) (b : Byte) (s : State) : (writeStatus st b s).crc = s.crc := rfl
@[simp] theorem writeStatus_rlen (st : Status) (b : Byte) (s : State) : (writeStatus st b s).rlen = s.rlen := rfl
@[simp] theorem writeStatus_stb (st : Status) (b : Byte) (s : State) : (writeStatus st b s).stb = b := rfl
@[simp] theorem writeStatus_blk (st : Status) (b : Byte) (s : State) : (writeStatus st b s).blk = s.blk := rfl
@[simp] theorem writeStatus_seq (st : Status) (b : Byte) (s : State) : (writeStatus st b s).seq = s.seq := rfl
@[simp] theorem writeStatus_err (st : Status) (b : Byte) (s : State) : (writeStatus st b s).err = s.err := rfl
@[simp] theorem writeStatus_errInfo (st : Status) (b : Byte) (s : State) : (writeStatus st b s).errInfo = s.errInfo := rfl
@[simp] theorem writeStatus_errBus (st : Status) (b : Byte) (s : State) : (writeStatus st b s).errBus = s.errBus := rfl
@[simp] theorem writeStatus_idlep (st : Status) (b : Byte) (s : State) : (writeStatus st b s).idlep = s.idlep := rfl
@[simp] theorem writeStatus_wrap (st : Status) (b : Byte) (s : State) : (writeStatus st b s).wrap = s.wrap := rfl
@[simp] theorem writeStatus_busy (st : Status) (b : Byte) (s : State) : (writeStatus st b s).busy = s.busy := rfl
@[simp] theorem writeStatus_status (st : Status) (b : Byte) (s : State) : (writeStatus st b s).status = some st := rfl
@[simp] theorem writeStatus_cfgBus (st : Status) (b : Byte) (s : State) : (writeStatus st b s).cfgBus = s.cfgBus := rfl
@[simp] theorem writeStatus_cfgDevaddr (st : Status) (b : Byte) (s : State) : (writeStatus st b s).cfgDevaddr = s.cfgDevaddr := rfl
@[simp] theorem writeStatus_cfgSettle (st : Status) (b : Byte) (s : State) : (writeStatus st b s).cfgSettle = s.cfgSettle := rfl
@[simp] theorem writeStatus_cfgCmdreg (st : Status) (b : Byte) (s : State) : (writeStatus st b s).cfgCmdreg = s.cfgCmdreg := rfl
@[simp] theorem writeStatus_pwr (st : Status) (b : Byte) (s : State) : (writeStatus st b s).pwr = s.pwr := rfl
@[simp] theorem writeStatus_data (st : Status) (b : Byte) (s : State) : (writeStatus st b s).data = s.data := rfl
@[simp] theorem writeStatus_txbuf (st : Status) (b : Byte) (s : State) : (writeStatus st b s).txbuf = s.txbuf := rfl
@[simp] theorem writeStatus_rxbuf (st : Status) (b : Byte) (s : State) : (writeStatus st b s).rxbuf = s.rxbuf := rfl
@[simp] theorem writeStatus_msg (st : Status) (b : Byte) (s : State) : (writeStatus st b s).msg = s.msg := rfl
@[simp] theorem writeStatus_hashText (st : Status) (b : Byte) (s : State) : (writeStatus st b s).hashText = s.hashText := rfl
@[simp] theorem writeStatus_hashHex (st : Status) (b : Byte) (s : State) : (writeStatus st b s).hashHex = s.hashHex := rfl
@[simp] theorem writeStatus_text (st : Status) (b : Byte) (s : State) : (writeStatus st b s).text = s.text := rfl
@[simp] theorem writeStatus_par (st : Status) (b : Byte) (s : State) : (writeStatus st b s).par = s.par := rfl
@[simp] theorem writeStatus_wrAns (st : Status) (b : Byte) (s : State) : (writeStatus st b s).wrAns = s.wrAns := rfl
@[simp] theorem writeStatus_rdAns (st : Status) (b : Byte) (s : State) : (writeStatus st b s).rdAns = s.rdAns := rfl
@[simp] theorem writeStatus_inputs (st : Status) (b : Byte) (s : State) : (writeStatus st b s).inputs = s.inputs := rfl
@[simp] theorem writeStatus_trace (st : Status) (b : Byte) (s : State) : (writeStatus st b s).trace = s.trace := rfl
@[simp] theorem writeStatus_portReplies (st : Status) (b : Byte) (s : State) : (writeStatus st b s).portReplies = s.portReplies := rfl

/-! ### setError -/

@[simp] theorem setError_opc (e : OpError) (s : State) : (setError e s).opc = s.opc := by cases e <;> rfl
@[simp] theorem setError_p1 (e : OpError) (s : State) : (setError e s).p1 = s.p1 := by cases e <;> rfl
@[simp] theorem setError_p2a (e : OpError) (s : State) : (setError e s).p2a = s.p2a := by cases e <;> rfl
@[simp] theorem setError_p2b (e : OpError) (s : State) : (setError e s).p2b = s.p2b := by cases e <;> rfl
@[simp] theorem setError_dlen (e : OpError) (s : State) : (setError e s).dlen = s.dlen := by cases e <;> rfl
@[simp] theorem setError_cnt (e : OpError) (s : State) : (setError e s).cnt = s.cnt := by cases e <;> rfl
@[simp] theorem setError_crc (e : OpError) (s : State) : (setError e s).crc = s.crc := by cases e <;> rfl
@[simp] theorem setError_rlen (e : OpError) (s : State) : (setError e s).rlen = s.rlen := by cases e <;> rfl
@[simp] theorem setError_stb (e : OpError) (s : State) : (setError e s).stb = s.stb := by cases e <;> rfl
@[simp] theorem setError_blk (e : OpError) (s : State) : (setError e s).blk = s.blk := by cases e <;> rfl
@[simp] theorem setError_seq (e : OpError) (s : State) : (setError e s).seq = s.seq := by cases e <;> rfl
@[simp] theorem setError_idlep (e : OpError) (s : State) : (setError e s).idlep = s.idlep := by cases e <;> rfl
@[simp] theorem setError_wrap (e : OpError) (s : State) : (setError e s).wrap = s.wrap := by cases e <;> rfl
@[simp] theorem setError_busy (e : OpError) (s : State) : (setError e s).busy = s.busy := by cases e <;> rfl
@[simp] theorem setError_status (e : OpError) (s : State) : (setError e s).status = s.status := by cases e <;> rfl
@[simp] theorem setError_cfgBus (e : OpError) (s : State) : (setError e s).cfgBus = s.cfgBus := by cases e <;> rfl
@[simp] theorem setError_cfgDevaddr (e : OpError) (s : State) : (setError e s).cfgDevaddr = s.cfgDevaddr := by cases e <;> rfl
@[simp] theorem setError_cfgSettle (e : OpError) (s : State) : (setError e s).cfgSettle = s.cfgSettle := by cases e <;> rfl
@[simp] theorem setError_cfgCmdreg (e : OpError) (s : State) : (setError e s).cfgCmdreg = s.cfgCmdreg := by cases e <;> rfl
@[simp] theorem setError_pwr (e : OpError) (s : State) : (setError e s).pwr = s.pwr := by cases e <;> rfl
@[simp] theorem setError_data (e : OpError) (s : State) : (setError e s).data = s.data := by cases e <;> rfl
@[simp] theorem setError_txbuf (e : OpError) (s : State) : (setError e s).txbuf = s.txbuf := by cases e <;> rfl
@[simp] theorem setError_rxbuf (e : OpError) (s : State) : (setError e s).rxbuf = s.rxbuf := by cases e <;> rfl
@[simp] theorem setError_msg (e : OpError) (s : State) : (setError e s).msg = s.msg := by cases e <;> rfl
@[simp] theorem setError_hashText (e : OpError) (s : State) : (setError e s).hashText = s.hashText := by cases e <;> rfl
@[simp] theorem setError_hashHex (e : OpError) (s : State) : (setError e s).hashHex = s.hashHex := by cases e <;> rfl
@[simp] theorem setError_text (e : OpError) (s : State) : (setError e s).text = s.text := by cases e <;> rfl
@[simp] theorem setError_par (e : OpError) (s : State) : (setError e s).par = s.par := by cases e <;> rfl
@[simp] theorem setError_wrAns (e : OpError) (s : State) : (setError e s).wrAns = s.wrAns := by cases e <;> rfl
@[simp] theorem setError_rdAns (e : OpError) (s : State) : (setError e s).rdAns = s.rdAns := by cases e <;> rfl
@[simp] theorem setError_inputs (e : OpError) (s : State) : (setError e s).inputs = s.inputs := by cases e <;> rfl
@[simp] theorem setError_trace (e : OpError) (s : State) : (setError e s).trace = s.trace := by cases e <;> rfl
@[simp] theorem setError_portReplies (e : OpError) (s : State) : (setError e s).portReplies = s.portReplies := by cases e <;> rfl

/-! ### endOperation -/

@[simp] theorem endOperation_opc (s : State) : (endOperation s).opc = s.opc := by unfold endOperation; split <;> rfl
@[simp] theorem endOperation_p1 (s : State) : (endOperation s).p1 = s.p1 := by unfold endOperation; split <;> rfl
@[simp] theorem endOperation_p2a (s : State) : (endOperation s).p2a = s.p2a := by unfold endOperation; split <;> rfl
@[simp] theorem endOperation_p2b (s : State) : (endOperation s).p2b = s.p2b := by unfold endOperation; split <;> rfl
@[simp] theorem endOperation_dlen (s : State) : (endOperation s).dlen = s.dlen := by unfold endOperation; split <;> rfl
@[simp] theorem endOperation_cnt (s : State) : (endOperation s).cnt = s.cnt := by unfold endOperation; split <;> rfl
@[simp] theorem endOperation_crc (s : State) : (endOperation s).crc = s.crc := by unfold endOperation; split <;> rfl
@[simp] theorem endOperation_rlen (s : State) : (endOperation s).rlen = s.rlen := by unfold endOperation; split <;> rfl
@[simp] theorem endOperation_stb (s : State) : (endOperation s).stb = s.stb := by unfold endOperation; split <;> rfl
@[simp] theorem endOperation_blk (s : State) : (endOperation s).blk = s.blk := by unfold endOperation; split <;> rfl
@[simp] theorem endOperation_err (s : State) : (endOperation s).err = s.err := by unfold endOperation; split <;> rfl
@[simp] theorem endOperation_errInfo (s : State) : (endOperation s).errInfo = s.errInfo := by unfold endOperation; split <;> rfl
@[simp] theorem endOperation_errBus (s : State) : (endOperation s).errBus = s.errBus := by unfold endOperation; split <;> rfl
@[simp] theorem endOperation_idlep (s : State) : (endOperation s).idlep = s.idlep := by unfold endOperation; split <;> rfl
@[simp] theorem endOperation_wrap (s : State) : (endOperation s).wrap = s.wrap := by unfold endOperation; split <;> rfl
@[simp] theorem endOperation_status (s : State) : (endOperation s).status = s.status := by unfold endOperation; split <;> rfl
@[simp] theorem endOperation_cfgBus (s : State) : (endOperation s).cfgBus = s.cfgBus := by unfold endOperation; split <;> rfl
@[simp] theorem endOperation_cfgDevaddr (s : State) : (endOperation s).cfgDevaddr = s.cfgDevaddr := by unfold endOperation; split <;> rfl
@[simp] theorem endOperation_cfgSettle (s : State) : (endOperation s).cfgSettle = s.cfgSettle := by unfold endOperation; split <;> rfl
@[simp] theorem endOperation_cfgCmdreg (s : State) : (endOperation s).cfgCmdreg = s.cfgCmdreg := by unfold endOperation; split <;> rfl
@[simp] theorem endOperation_pwr (s : State) : (endOperation s).pwr = s.pwr := by unfold endOperation; split <;> rfl
@[simp] theorem endOperation_data (s : State) : (endOperation s).data = s.data := by unfold endOperation; split <;> rfl
@[simp] theorem endOperation_txbuf (s : State) : (endOperation s).txbuf = s.txbuf := by unfold endOperation; split <;> rfl
@[simp] theorem endOperation_rxbuf (s : State) : (endOperation s).rxbuf = s.rxbuf := by unfold endOperation; split <;> rfl
@[simp] theorem endOperation_msg (s : State) : (endOperation s).msg = s.msg := by unfold endOperation; split <;> rfl
@[simp] theorem endOperation_hashText (s : State) : (endOperation s).hashText = s.hashText := by unfold endOperation; split <;> rfl
@[simp] theorem endOperation_hashHex (s : State) : (endOperation s).hashHex = s.hashHex := by unfold endOperation; split <;> rfl
@[simp] theorem endOperation_text (s : State) : (endOperation s).text = s.text := by unfold endOperation; split <;> rfl
@[simp] theorem endOperation_par (s : State) : (endOperation s).par = s.par := by unfold endOperation; split <;> rfl
@[simp] theorem endOperation_wrAns (s : State) : (endOperation s).wrAns = s.wrAns := by unfold endOperation; split <;> rfl
@[simp] theorem endOperation_rdAns (s : State) : (endOperation s).rdAns = s.rdAns := by unfold endOperation; split <;> rfl
@[simp] theorem endOperation_inputs (s : State) : (endOperation s).inputs = s.inputs := by unfold endOperation; split <;> rfl
@[simp] theorem endOperation_portReplies (s : State) : (endOperation s).portReplies = s.portReplies := by unfold endOperation; split <;> rfl
@[simp] theorem endOperation_busy (s : State) : (endOperation s).busy = false := by unfold endOperation; split <;> rfl
@[simp] theorem endOperation_seq (s : State) : (endOperation s).seq = Seq.zero := by unfold endOperation; split <;> rfl

end Sys2Proof.Machine
end

