-- ==== Sys2Proof/Laws/Memory.lean ====
section
/-! SUPPORT. The buffers keep their bounds (Memory.wf, R42) under every operation that writes one, and have them at
reset. -/

namespace Sys2Proof.Machine

theorem Memory.wf_iff (s : State) :
    Memory.wf s = true ↔
      s.data.length ≤ 248 ∧ s.dlen = BitVec.ofNat 8 s.data.length ∧ s.txbuf.length ≤ 255 := by
  simp [Memory.wf, and_assoc]

/-- The bounds speak of three fields only. -/
theorem Memory.wf_congr {s t : State} (hd : t.data = s.data) (hl : t.dlen = s.dlen) (hx : t.txbuf = s.txbuf) :
    Memory.wf t = Memory.wf s := by
  simp [Memory.wf, hd, hl, hx]

theorem reset_memory_wf : Memory.wf State.reset = true := by decide

@[simp] theorem clearOperation_wf (s : State) : Memory.wf (clearOperation s) = true := rfl

@[simp] theorem accept_wf (op : OpCode) (s : State) : Memory.wf (accept op s) = true := rfl

theorem clearExchange_loadOperands_wf (a b c d : Byte) (m : Bytes) (s : State) (h : m.length ≤ 248) :
    Memory.wf (loadOperands a b c d m (clearExchange s)) = true := by
  simp [Memory.wf_iff, h]

theorem loadOperands_wf (a b c d : Byte) (m : Bytes) {s : State} (h : m.length ≤ 248) (hs : Memory.wf s = true) :
    Memory.wf (loadOperands a b c d m s) = true := by
  have := (Memory.wf_iff s).1 hs
  simp [Memory.wf_iff, h, this.2.2]

theorem beginExecute_wf (a b c d : Byte) (m : Bytes) (w : Bool) (s : State) (h : m.length ≤ 248) :
    Memory.wf (beginExecute a b c d m w s) = true := by
  simp [Memory.wf_iff, h]

theorem beginLibExecute_wf (l : LStep) (a b c d : Byte) (m : Bytes) (s : State) (h : m.length ≤ 248) :
    Memory.wf (beginLibExecute l a b c d m s) = true := by
  simp [Memory.wf_iff, h]

theorem encodeFrame_wf {s : State} (hs : Memory.wf s = true) : Memory.wf (encodeFrame s) = true := by
  have := (Memory.wf_iff s).1 hs
  simp [Memory.wf_iff, this]
  omega

@[simp] theorem deliver_wf (o : OpOutcome) (s : State) : Memory.wf (deliver o s) = Memory.wf s := rfl

@[simp] theorem endOperation_wf (s : State) : Memory.wf (endOperation s) = Memory.wf s :=
  Memory.wf_congr (by simp) (by simp) (by simp)

@[simp] theorem setError_wf (e : OpError) (s : State) : Memory.wf (setError e s) = Memory.wf s :=
  Memory.wf_congr (by simp) (by simp) (by simp)

theorem hashBlock_length_le (m : Bytes) (i : Nat) : (hashBlock m i).length ≤ 248 := by
  simp [hashBlock, Config.block]

theorem hashTail_length (m : Bytes) : (hashTail m).length = m.length % 64 := by
  simp [hashTail, blockCount, Config.block]; omega

theorem enterUpdate_wf (s : State) : Memory.wf (enterUpdate s) = true := by
  unfold enterUpdate
  split
  · exact beginLibExecute_wf _ _ _ _ _ _ _ (hashBlock_length_le _ _)
  · exact beginLibExecute_wf _ _ _ _ _ _ _ (by rw [hashTail_length]; omega)

end Sys2Proof.Machine
end

