-- ==== Sys2Proof/Laws/PerInstr.lean ====
section
/-! SUPPORT. Statements made for every row of the operation table. -/

namespace Sys2Proof.Laws.Layout

/-- The length in bytes of a row's encoding (R101, R110, R118, R126). -/
def byteLength : Instr → Nat
  | .crc16 s => 1 + s.length
  | .crcchk buf => 1 + buf.length
  | .encode _ _ _ _ data => 5 + data.length
  | .verify buf => 1 + buf.length
  | .stdec _ => 2
  | .execute _ _ _ _ _ data => 5 + data.length
  | .sha256 _ text => 1 + text.length
  | .reservedOp0 _ ops => 1 + ops.length
  | .reservedOpD _ ops => 1 + ops.length
  | .reservedOpE _ ops => 1 + ops.length
  | .reservedOpF _ ops => 1 + ops.length
  | .cmdGeneric _ _ _ _ data => 7 + data.length
  | .readId => 7
  | .selftestAll => 7
  | .shaStart => 7
  | .shaUpdate block => 7 + block.length
  | .shaEnd tail => 7 + tail.length
  | .respStatus _ _ => 4
  | .respData _ payload => 3 + payload.length
  | _ => 1

/-- The encoder writes exactly the bytes the row's layout has. -/
def Statement (i : Instr) : Prop := ∀ par, (encode par i).length = byteLength i

/-- The case split, once for all rows. -/
theorem every (i : Instr) : Statement i := by
  intro par
  cases i <;> simp [encode, byteLength, responseFrame] <;> omega

theorem crc16 (s : Bytes) : Statement (.crc16 s) := every _

theorem crcchk (buf : Bytes) : Statement (.crcchk buf) := every _

theorem encode (opc p1 p2a p2b : Byte) (data : Bytes) : Statement (.encode opc p1 p2a p2b data) := every _

theorem verify (buf : Bytes) : Statement (.verify buf) := every _

theorem stdec (b : Byte) : Statement (.stdec b) := every _

theorem wake : Statement .wake := every _

theorem sleep : Statement .sleep := every _

theorem idle : Statement .idle := every _

theorem execute (w : Bool) (opc p1 p2a p2b : Byte) (data : Bytes) : Statement (.execute w opc p1 p2a p2b data) := every _

theorem idread : Statement .idread := every _

theorem selftest : Statement .selftest := every _

theorem sha256 (h : Bool) (text : Bytes) : Statement (.sha256 h text) := every _

theorem reservedOp0 (flags : BitVec 4) (operands : Bytes) : Statement (.reservedOp0 flags operands) := every _

theorem reservedOpD (flags : BitVec 4) (operands : Bytes) : Statement (.reservedOpD flags operands) := every _

theorem reservedOpE (flags : BitVec 4) (operands : Bytes) : Statement (.reservedOpE flags operands) := every _

theorem reservedOpF (flags : BitVec 4) (operands : Bytes) : Statement (.reservedOpF flags operands) := every _

theorem cmdGeneric (opc p1 p2a p2b : Byte) (data : Bytes) : Statement (.cmdGeneric opc p1 p2a p2b data) := every _

theorem readId : Statement .readId := every _

theorem selftestAll : Statement .selftestAll := every _

theorem shaStart : Statement .shaStart := every _

theorem shaUpdate (block : Bytes) : Statement (.shaUpdate block) := every _

theorem shaEnd (tail : Bytes) : Statement (.shaEnd tail) := every _

theorem respStatus (count status : Byte) : Statement (.respStatus count status) := every _

theorem respData (count : Byte) (payload : Bytes) : Statement (.respData count payload) := every _

theorem wakeWr : Statement .wakeWr := every _

theorem sleepWr : Statement .sleepWr := every _

theorem idleWr : Statement .idleWr := every _

theorem trigWr : Statement .trigWr := every _

theorem statusSuccess : Statement .statusSuccess := every _

theorem statusChecksumOrVerifyMiscompare : Statement .statusChecksumOrVerifyMiscompare := every _

theorem statusParseError : Statement .statusParseError := every _

theorem statusEccFault : Statement .statusEccFault := every _

theorem statusSelfTestError : Statement .statusSelfTestError := every _

theorem statusHealthTestError : Statement .statusHealthTestError := every _

theorem statusExecutionError : Statement .statusExecutionError := every _

theorem statusAfterWakeBeforeFirstCommand : Statement .statusAfterWakeBeforeFirstCommand := every _

theorem statusWatchdogExpiringSoon : Statement .statusWatchdogExpiringSoon := every _

theorem statusCommunicationError : Statement .statusCommunicationError := every _

theorem statusUnknown (b : Byte) : Statement (.statusUnknown b) := every _

theorem stFailSha (mask : Byte) : Statement (.stFailSha mask) := every _

theorem stFailAes (mask : Byte) : Statement (.stFailAes mask) := every _

theorem stFailEcdh (mask : Byte) : Statement (.stFailEcdh mask) := every _

theorem stFailEcdsaSign (mask : Byte) : Statement (.stFailEcdsaSign mask) := every _

theorem stFailEcdsaVerify (mask : Byte) : Statement (.stFailEcdsaVerify mask) := every _

theorem stFailRngDrbg (mask : Byte) : Statement (.stFailRngDrbg mask) := every _

end Sys2Proof.Laws.Layout
end

