-- ==== Sys2Proof/Laws/Steps.lean ====
section
/-! SUPPORT. What each sequencer step, the error exit and the step function can do, said once. -/

namespace Sys2Proof.Machine

/-! ### The bus primitives (R64, R65) -/

/-- A bus write takes the transport's next answer and puts one event on the trace; nothing else changes. -/
theorem busWrite_cases (dev reg : Byte) (b : Bytes) (s : State) :
    (s.wrAns = [] ∧ busWrite dev reg b s = none) ∨
      ∃ a ws, s.wrAns = a :: ws ∧
        busWrite dev reg b s =
          some (a, { s with wrAns := ws, trace := s.trace ++ [.busWrite s.cfgBus dev reg b a] }) := by
  unfold busWrite
  cases h : s.wrAns with
  | nil => exact .inl ⟨rfl, rfl⟩
  | cons a ws => exact .inr ⟨a, ws, rfl, rfl⟩

/-- A bus read takes the transport's next answer and puts one event on the trace; nothing else changes. -/
theorem busRead_cases (dev reg : Byte) (n : Nat) (s : State) :
    (s.rdAns = [] ∧ busRead dev reg n s = none) ∨
      ∃ a rs, s.rdAns = a :: rs ∧
        busRead dev reg n s =
          some (a, { s with rdAns := rs, trace := s.trace ++ [.busRead s.cfgBus dev reg n a] }) := by
  unfold busRead
  cases h : s.rdAns with
  | nil => exact .inl ⟨rfl, rfl⟩
  | cons a rs => exact .inr ⟨a, rs, rfl, rfl⟩

/-! ### The transport-dependent steps with an answer there -/

variable {s : State} {a : WrAnswer} {ws : List WrAnswer} {rs : List RdAnswer} {b : Bytes} {e : BusErr}

theorem wWriteStep_answered (h : s.wrAns = a :: ws) :
    wWriteStep s =
      .moved (advanceW { s with wrAns := ws, trace := s.trace ++ [.busWrite s.cfgBus 0#8 0#8 [0#8] a] }) := by
  simp [wWriteStep, busWrite, h]

theorem wReadStep_bytes (h : s.rdAns = .bytes b :: rs) :
    wReadStep s =
      .moved (advanceW { s with
        rdAns := rs, trace := s.trace ++ [.busRead s.cfgBus s.cfgDevaddr 0#8 4 (.bytes b)], rxbuf := b }) := by
  simp [wReadStep, busRead, h]

theorem wReadStep_err (h : s.rdAns = .err e :: rs) :
    wReadStep s =
      raise (.transportError e) { s with
        rdAns := rs, trace := s.trace ++ [.busRead s.cfgBus s.cfgDevaddr 0#8 4 (.err e)] } := by
  simp [wReadStep, busRead, h]

theorem sWriteStep_answered (h : s.wrAns = a :: ws) :
    sWriteStep s =
      .moved (sleepDone { s with
        wrAns := ws, trace := s.trace ++ [.busWrite s.cfgBus s.cfgDevaddr s.cfgCmdreg [1#8] a] }) := by
  simp [sWriteStep, busWrite, h]

theorem iWriteStep_answered (h : s.wrAns = a :: ws) :
    iWriteStep s =
      idleDone { s with
        wrAns := ws, trace := s.trace ++ [.busWrite s.cfgBus s.cfgDevaddr s.cfgCmdreg [2#8] a] } := by
  simp [iWriteStep, busWrite, h]

theorem xWrcmdStep_ok (h : s.wrAns = .ok :: ws) :
    xWrcmdStep s =
      .moved (advanceX { s with
        wrAns := ws, trace := s.trace ++ [.busWrite s.cfgBus s.cfgDevaddr s.cfgCmdreg s.txbuf .ok] }) := by
  simp [xWrcmdStep, busWrite, h]

theorem xWrcmdStep_err (h : s.wrAns = .err e :: ws) :
    xWrcmdStep s =
      raise (.transportError e) { s with
        wrAns := ws, trace := s.trace ++ [.busWrite s.cfgBus s.cfgDevaddr s.cfgCmdreg s.txbuf (.err e)] } := by
  simp [xWrcmdStep, busWrite, h]

theorem xTrigStep_ok (h : s.wrAns = .ok :: ws) :
    xTrigStep s =
      .moved (advanceX { s with
        wrAns := ws, trace := s.trace ++ [.busWrite s.cfgBus s.cfgDevaddr 0#8 [0#8] .ok] }) := by
  simp [xTrigStep, busWrite, h]

theorem xTrigStep_err (h : s.wrAns = .err e :: ws) :
    xTrigStep s =
      raise (.transportError e) { s with
        wrAns := ws, trace := s.trace ++ [.busWrite s.cfgBus s.cfgDevaddr 0#8 [0#8] (.err e)] } := by
  simp [xTrigStep, busWrite, h]

theorem xRdlenStep_bytes {n : Byte} (h : s.rdAns = .bytes (n :: b) :: rs) :
    xRdlenStep s =
      .moved (advanceX { s with
        rdAns := rs, trace := s.trace ++ [.busRead s.cfgBus s.cfgDevaddr s.cfgCmdreg 1 (.bytes (n :: b))],
        rlen := n }) := by
  simp [xRdlenStep, busRead, h]

theorem xRdlenStep_empty (h : s.rdAns = .bytes [] :: rs) : xRdlenStep s = .fault .noLengthByte := by
  simp [xRdlenStep, busRead, h]

theorem xRdlenStep_err (h : s.rdAns = .err e :: rs) :
    xRdlenStep s =
      raise (.transportError e) { s with
        rdAns := rs, trace := s.trace ++ [.busRead s.cfgBus s.cfgDevaddr s.cfgCmdreg 1 (.err e)] } := by
  simp [xRdlenStep, busRead, h]

theorem xRdfrmStep_bytes (h : s.rdAns = .bytes b :: rs) :
    xRdfrmStep s =
      .moved (advanceX { s with
        rdAns := rs, trace := s.trace ++ [.busRead s.cfgBus s.cfgDevaddr s.cfgCmdreg s.rlen.toNat (.bytes b)],
        rxbuf := b }) := by
  simp [xRdfrmStep, busRead, h]

theorem xRdfrmStep_err (h : s.rdAns = .err e :: rs) :
    xRdfrmStep s =
      raise (.transportError e) { s with
        rdAns := rs, trace := s.trace ++ [.busRead s.cfgBus s.cfgDevaddr s.cfgCmdreg s.rlen.toNat (.err e)] } := by
  simp [xRdfrmStep, busRead, h]

/-! ### The error exit (R290) -/

/-- Returning from an EXECUTE: to the host, along the library operation, or on its error path. -/
theorem leaveExecute_cases (s : State) :
    let q := { s with seq := ⟨s.seq.op, s.seq.l, .off, .off⟩ }
    (s.seq.l = .off ∧ leaveExecute s = .moved (endOperation q)) ∨
      (s.seq.l ≠ .off ∧ s.err = .none ∧ leaveExecute s = libNext q) ∨
      (s.seq.l ≠ .off ∧ s.err ≠ .none ∧ s.par.libSleepOnError = true ∧ leaveExecute s = .moved (enterSleep q)) ∨
      (s.seq.l ≠ .off ∧ s.err ≠ .none ∧ s.par.libSleepOnError = false ∧ leaveExecute s = .moved (endOperation q)) := by
  intro q
  by_cases hl : s.seq.l = .off
  · exact .inl ⟨hl, by simp [leaveExecute, hl, q]⟩
  · by_cases he : s.err = .none
    · exact .inr (.inl ⟨hl, he, by simp [leaveExecute, hl, he, q]⟩)
    · cases hp : s.par.libSleepOnError
      · exact .inr (.inr (.inr ⟨hl, he, rfl, by simp [leaveExecute, libError, hl, he, hp, q]⟩))
      · exact .inr (.inr (.inl ⟨hl, he, rfl, by simp [leaveExecute, libError, hl, he, hp, q]⟩))

/-- Raising an error: outside an EXECUTE, in its wake, or in its body. -/
theorem raise_cases (e : OpError) (s : State) :
    (s.seq.x = .off ∧ raise e s = .moved (endOperation (setError e s))) ∨
      (s.seq.x = .xWake ∧ raise e s = leaveExecute (setError e s)) ∨
      (s.seq.x ≠ .off ∧ s.seq.x ≠ .xWake ∧ raise e s = .moved (enterExit (setError e s))) := by
  cases h : s.seq.x <;> simp [raise, h]

/-! ### The run of an operation and the step -/

theorem runSeq_moved {n : Nat} {s t : State} (h : seqStep s = .moved t) : runSeq (n + 1) s = runSeq n t := by
  simp [runSeq, h]

theorem runSeq_stay {n : Nat} {s : State} (h : seqStep s = .stay) : runSeq n s = .next s := by
  cases n <;> simp [runSeq, h]

theorem runSeq_fault {n : Nat} {s : State} {f : Fault} (h : seqStep s = .fault f) :
    runSeq (n + 1) s = .fault f := by
  simp [runSeq, h]

theorem seqStep_not_busy {s : State} (h : s.busy = false) : seqStep s = .stay := by simp [seqStep, h]

theorem seqStep_busy {s : State} (h : s.busy = true) : seqStep s = wStep s := by simp [seqStep, h]

theorem runOperation_no_input {s : State} (h : s.inputs = []) : runOperation s = runSeq (stepBudget s) s := by
  simp [runOperation, h]

/-- With an input pending only the acceptance is done. -/
theorem runOperation_pending {s : State} (h : s.inputs ≠ []) : runOperation s = .next s := by
  unfold runOperation
  split
  · contradiction
  · rfl

/-- A run that answers a next state keeps whatever every moving sequencer step keeps. -/
theorem runSeq_induct {P : State → Prop} (hP : ∀ s t, P s → seqStep s = .moved t → P t) :
    ∀ n s t, P s → runSeq n s = .next t → P t := by
  intro n
  induction n with
  | zero =>
    intro s t hs h
    cases h
    exact hs
  | succ n ih =>
    intro s t hs h
    cases hq : seqStep s with
    | moved u =>
      rw [runSeq_moved hq] at h
      exact ih u t (hP s u hs hq) h
    | stay =>
      rw [runSeq_stay hq] at h
      cases h
      exact hs
    | fault f =>
      rw [runSeq_fault hq] at h
      cases h

/-- AFC's own step: the sequencer moves, faults, or is not enabled. -/
theorem ownStep_cases (s : State) :
    (∃ t, seqStep s = .moved t ∧ ownStep s = .next t) ∨ (∃ f, seqStep s = .fault f ∧ ownStep s = .fault f) ∨
      (seqStep s = .stay ∧ ownStep s = .next s) := by
  cases hq : seqStep s with
  | moved t => exact .inl ⟨t, rfl, by simp [ownStep, ofSeq, hq]⟩
  | fault f => exact .inr (.inl ⟨f, rfl, by simp [ownStep, ofSeq, hq]⟩)
  | stay => exact .inr (.inr ⟨rfl, by simp [ownStep, ofSeq, hq]⟩)

/-- Without an input a step is AFC's own. -/
theorem step_no_input {s : State} (h : s.inputs = []) : step s = ownStep s := by simp [step, stepOnce, h]

/-- What a step can do: AFC's own step, or the next input. -/
theorem step_cases (s : State) :
    (s.inputs = [] ∧ step s = ownStep s) ∨
      ∃ a rest, s.inputs = a :: rest ∧ step s = serveInput a { s with inputs := rest } := by
  cases h : s.inputs with
  | nil => exact .inl ⟨rfl, step_no_input h⟩
  | cons a rest => exact .inr ⟨a, rest, rfl, by simp [step, stepOnce, h]⟩

/-! ### Several steps -/

@[simp] theorem stepsAfter_zero (o : Host.Outcome State Fault Refusal) : stepsAfter 0 o = o := by cases o <;> rfl
@[simp] theorem stepsAfter_next (n : Nat) (s : State) : stepsAfter (n + 1) (.next s) = stepsAfter n (step s) := rfl
@[simp] theorem stepsAfter_fault (n : Nat) (f : Fault) : stepsAfter n (.fault f) = .fault f := by cases n <;> rfl
@[simp] theorem stepsAfter_refused (n : Nat) (r : Refusal) : stepsAfter n (.refused r) = .refused r := by cases n <;> rfl

end Sys2Proof.Machine
end

