-- ==== Sys2Proof/Tests/Slice0.lean ====
section
/-! SUPPORT. Tests. Expected values are the spec's (95_test_vectors.md and the worked examples of the rules), never the
model's own. -/

namespace Sys2Proof.Tests

-- The tests are checked one after another: checked all at once they need more memory than the check allows.
set_option Elab.async false

open Sys2Proof Sys2Proof.Machine

/-! ### Helpers -/

/-- The next state of an outcome. -/
def nextOf (o : Host.Outcome State Fault Refusal) : Option State :=
  match o with
  | .next t => some t
  | _ => none

/-- The fault of an outcome. -/
def faultOf (o : Host.Outcome State Fault Refusal) : Option Fault :=
  match o with
  | .fault f => some f
  | _ => none

/-- The refusal of an outcome. -/
def refusalOf (o : Host.Outcome State Fault Refusal) : Option Refusal :=
  match o with
  | .refused r => some r
  | _ => none

/-- A field of the next state. -/
def after {α : Type} (o : Host.Outcome State Fault Refusal) (f : State → α) : Option α := (nextOf o).map f

/-- The last trace entry of the next state. -/
def lastOf (o : Host.Outcome State Fault Refusal) : Option (Option Event) := after o fun t => t.trace.getLast?

/-- Reset with the transport's answers. -/
def ready (ws : List WrAnswer) (rs : List RdAnswer) : State := { State.reset with wrAns := ws, rdAns := rs }

/-- The after-wake response (R205). -/
def wakeFrame : Bytes := [0x04#8, 0x11#8, 0x33#8, 0x43#8]

/-- The Success response. -/
def successFrame : Bytes := [0x04#8, 0x00#8, 0x03#8, 0x40#8]

/-- The 35-byte response of program P1. -/
def idFrame : Bytes := 0x23#8 :: (List.range 32).map (BitVec.ofNat 8) ++ [0x70#8, 0xFA#8]

/-- Answers to one good exchange with this response. -/
def exchangeReads (resp : Bytes) : List RdAnswer :=
  [.bytes wakeFrame, .bytes [BitVec.ofNat 8 resp.length], .bytes resp]

/-! ### CRC (95_test_vectors.md 2.1, 2.2, 2.4) -/

theorem test_crc16_after_wake_body : crc16 [0x04#8, 0x11#8] = [0x33#8, 0x43#8] := by decide
theorem test_crc16_check_input :
    crc16 [0x31#8, 0x32#8, 0x33#8, 0x34#8, 0x35#8, 0x36#8, 0x37#8, 0x38#8, 0x39#8] = [0xDD#8, 0xBC#8] := by
  decide +kernel
theorem test_crcBit_xor_after_shift : crcBit 0x8005#16 false = 0x800F#16 := by decide
theorem test_crcBit_both_ones : crcBit 0x80C3#16 true = 0x0186#16 := by decide
theorem test_crcchk_bytes_swapped :
    lastOf (exec (.crcchk [0x04#8, 0x11#8, 0x43#8, 0x33#8]) State.reset) = some (some (.outcome (.ok (.bool false)))) := by
  decide +kernel
theorem test_crcchk_empty_body :
    lastOf (exec (.crcchk [0x00#8, 0x00#8]) State.reset) = some (some (.outcome (.ok (.bool true)))) := by
  decide +kernel

/-! ### Framer (2.5, 2.6) -/

theorem test_encode_keeps_p2_order :
    commandFrame 0xAA#8 0xBB#8 0xCC#8 0xDD#8 [0x01#8, 0x02#8, 0x03#8] =
      [0x0A#8, 0xAA#8, 0xBB#8, 0xCC#8, 0xDD#8, 0x01#8, 0x02#8, 0x03#8, 0xC7#8, 0xD5#8] := by decide +kernel
theorem test_encode_longest :
    (commandFrame 0x10#8 0x20#8 0x30#8 0x40#8 (List.replicate 248 0xA5#8)).drop 253 = [0xFE#8, 0x41#8] := by
  decide +kernel
theorem test_encode_249_refused :
    refusalOf (exec (.encode 0#8 0#8 0#8 0#8 (List.replicate 249 0#8)) State.reset) =
      some (.badRequest .dataTooLong) := by decide +kernel
theorem test_verify_bad_checksum_wins :
    lastOf (exec (.verify [0x04#8, 0x01#8, 0x00#8, 0x00#8]) State.reset) =
      some (some (.outcome (.error .checksumMismatch))) := by decide +kernel
theorem test_verify_five_bytes_no_status :
    lastOf (exec (.verify [0x05#8, 0x01#8, 0xAA#8, 0x77#8, 0x89#8]) State.reset) =
      some (some (.outcome (.ok (.payload [0x01#8, 0xAA#8] none)))) := by decide +kernel
theorem test_verify_device_error_reason :
    lastOf (exec (.verify [0x04#8, 0x01#8, 0x00#8, 0xC3#8]) State.reset) =
      some (some (.outcome (.error (.deviceError 0x01#8 "checkmac or verify miscompare".toList)))) := by decide +kernel

/-! ### Status decoder (2.7) -/

theorem test_stdec_known_count :
    ((List.range 256).filter fun n => stdec defaultStatusMap (BitVec.ofNat 8 n) != .unknown) =
      [0x00, 0x01, 0x03, 0x05, 0x07, 0x08, 0x0F, 0x11, 0xEE, 0xFF] := by decide +kernel
theorem test_escalates_bounds :
    [0x00#8, 0x0F#8, 0x10#8, 0x11#8, 0xEE#8, 0xFE#8, 0xFF#8].map escalates =
      [false, true, false, false, false, false, true] := by decide
theorem test_default_status_map_valid : statusMapValid defaultStatusMap = true := by decide +kernel
theorem test_stdec_unknown :
    after (exec (.stdec 0x42#8) State.reset) (fun t => t.status) = some (some .unknown) := by decide +kernel
theorem test_status_row_escalated_at_verify :
    after (exec .statusExecutionError { State.reset with busy := true, seq := ⟨.execute, .off, .xVerify, .off⟩ })
      (fun t => (t.err, t.errInfo, t.seq.x)) = some (.deviceError, 0x0F#8, .xExit) := by decide +kernel
theorem test_status_row_after_wake :
    after (exec .statusAfterWakeBeforeFirstCommand { State.reset with busy := true, seq := ⟨.wake, .off, .off, .wVerify⟩ })
      (fun t => (t.pwr, t.busy)) = some (.awake, false) := by decide +kernel
theorem test_resp_status_at_verify :
    after (exec (.respStatus 0x04#8 0x42#8) { State.reset with busy := true, seq := ⟨.execute, .off, .xVerify, .off⟩ })
      (fun t => (t.err, t.errInfo, t.status)) = some (.unknownStatus, 0x42#8, some .unknown) := by decide +kernel
theorem test_resp_data_at_verify :
    after (exec (.respData 0x06#8 [0xDE#8, 0xAD#8, 0xBE#8])
        { State.reset with busy := true, seq := ⟨.execute, .off, .xVerify, .off⟩ })
      (fun t => (t.crc, t.status, t.seq.x)) = some (0x394A#16, none, .xExit) := by decide +kernel

/-! ### Power-state controller (2.8) -/

theorem test_wake_discards_write_error :
    after (exec .wake (ready [.err 7] [.bytes wakeFrame])) (fun t => (t.trace, t.pwr)) =
      some ([.busWrite 0#8 0x00#8 0x00#8 [0x00#8] (.err 7), .delay 250#16,
        .busRead 0#8 0x60#8 0x00#8 4 (.bytes wakeFrame), .outcome (.ok .unit)], .awake) := by decide +kernel
theorem test_wake_success_status_fails :
    after (exec .wake (ready [.ok] [.bytes successFrame])) (fun t => (t.trace.getLast?, t.pwr)) =
      some (some (.outcome (.error .wakeFailed)), .dormant) := by decide +kernel
theorem test_sleep_trace :
    after (exec .sleep (ready [.err 1] [])) (fun t => (t.trace, t.pwr)) =
      some ([.busWrite 0#8 0x60#8 0x03#8 [0x01#8] (.err 1), .outcome (.ok .unit)], .dormant) := by decide +kernel
theorem test_idle_trace :
    after (exec .idle (ready [.ok] [])) (fun t => (t.trace, t.pwr)) =
      some ([.busWrite 0#8 0x60#8 0x03#8 [0x02#8] .ok, .outcome (.ok .unit)], .idle) := by decide +kernel
theorem test_wake_waits_for_transport :
    after (exec .wake State.reset) (fun t => (t.busy, t.seq)) = some (true, ⟨.wake, .off, .off, .wWrite⟩) := by
  decide +kernel
theorem test_wakeWr_uses_device_zero :
    after (exec .wakeWr (ready [.err 3] [])) (fun t => t.trace) =
      some [.busWrite 0#8 0x00#8 0x00#8 [0x00#8] (.err 3)] := by decide +kernel
theorem test_sleepWr_byte :
    after (exec .sleepWr (ready [.ok] [])) (fun t => t.trace) =
      some [.busWrite 0#8 0x60#8 0x03#8 [0x01#8] .ok] := by decide +kernel
theorem test_idleWr_byte :
    after (exec .idleWr (ready [.ok] [])) (fun t => t.trace) =
      some [.busWrite 0#8 0x60#8 0x03#8 [0x02#8] .ok] := by decide +kernel
theorem test_trigWr_byte :
    after (exec .trigWr (ready [.ok] [])) (fun t => t.trace) =
      some [.busWrite 0#8 0x60#8 0x00#8 [0x00#8] .ok] := by decide +kernel

/-! ### Executor (2.9, P5, P6) -/

theorem test_execute_unwrapped_trace :
    after (exec (.execute false 0x02#8 0x80#8 0x00#8 0x00#8 [])
        (ready [.ok, .ok] [.bytes [0x04#8], .bytes successFrame])) (fun t => t.trace) =
      some [.busWrite 0#8 0x60#8 0x03#8 [0x07#8, 0x02#8, 0x80#8, 0x00#8, 0x00#8, 0x09#8, 0xAD#8] .ok, .delay 250#16,
        .busWrite 0#8 0x60#8 0x00#8 [0x00#8] .ok, .busRead 0#8 0x60#8 0x03#8 1 (.bytes [0x04#8]),
        .busRead 0#8 0x60#8 0x03#8 4 (.bytes successFrame), .outcome (.ok (.payload [0x00#8] none))] := by decide +kernel
theorem test_execute_p5_idle_on_error :
    after (exec (.execute true 0x02#8 0x80#8 0x00#8 0x00#8 [])
        (ready [.ok, .ok, .ok, .ok] (exchangeReads [0x04#8, 0x00#8, 0x03#8, 0x41#8])))
      (fun t => (t.trace.drop 8, t.err, t.pwr, t.idlep, t.status)) =
      some ([.busWrite 0#8 0x60#8 0x03#8 [0x02#8] .ok, .outcome (.error .checksumMismatch)], .checksumMismatch, .idle,
        false, none) := by decide +kernel
/-- R168: a response longer than 4 bytes does not write `STATUS`; the wake's stays (R35). -/
theorem test_execute_long_response_keeps_status :
    after (exec (.execute true 0x02#8 0x80#8 0x00#8 0x00#8 []) (ready [.ok, .ok, .ok, .ok] (exchangeReads idFrame)))
      (fun t => t.status) = some (some .afterWakeBeforeFirstCommand) := by decide +kernel
theorem test_cmdGeneric_frame :
    after (exec (.cmdGeneric 0xAA#8 0xBB#8 0xCC#8 0xDD#8 [0x01#8, 0x02#8, 0x03#8]) (ready [.ok] []))
      (fun t => t.txbuf) =
      some [0x0A#8, 0xAA#8, 0xBB#8, 0xCC#8, 0xDD#8, 0x01#8, 0x02#8, 0x03#8, 0xC7#8, 0xD5#8] := by decide +kernel
theorem test_readId_frame :
    after (exec .readId (ready [.ok] [])) (fun t => t.txbuf) =
      some [0x07#8, 0x02#8, 0x80#8, 0x00#8, 0x00#8, 0x09#8, 0xAD#8] := by decide +kernel
theorem test_selftestAll_frame :
    after (exec .selftestAll (ready [.ok] [])) (fun t => t.txbuf) =
      some [0x07#8, 0x77#8, 0x3B#8, 0x00#8, 0x00#8, 0x9D#8, 0xFB#8] := by decide +kernel
theorem test_shaStart_frame :
    after (exec .shaStart (ready [.ok] [])) (fun t => t.txbuf) =
      some [0x07#8, 0x47#8, 0x00#8, 0x00#8, 0x00#8, 0x2E#8, 0x85#8] := by decide +kernel
theorem test_shaUpdate_checksum :
    after (exec (.shaUpdate ((List.range 64).map (BitVec.ofNat 8))) (ready [.ok] []))
      (fun t => (t.txbuf.take 5, t.txbuf.drop 69)) =
      some ([0x47#8, 0x47#8, 0x01#8, 0x40#8, 0x00#8], [0x9A#8, 0x4B#8]) := by decide +kernel
theorem test_shaEnd_frame :
    after (exec (.shaEnd [0x80#8, 0x81#8]) (ready [.ok] [])) (fun t => t.txbuf) =
      some [0x09#8, 0x47#8, 0x02#8, 0x02#8, 0x00#8, 0x80#8, 0x81#8, 0xF5#8, 0xF2#8] := by decide +kernel

/-! ### Command library (2.10, P1, P2, P3, P8) -/

theorem test_idread_p1 :
    after (exec .idread (ready [.err 1, .ok, .ok, .ok, .ok] (exchangeReads idFrame)))
      (fun t => (t.trace.length, t.trace.getLast?, t.pwr)) =
      some (11, some (.outcome (.ok (.text "serial:0x0001020308090a0b0c revision:0x04050607".toList))), .dormant) := by
  decide +kernel
theorem test_idread_short_payload :
    faultOf (exec .idread (ready [.ok, .ok, .ok, .ok, .ok] (exchangeReads successFrame))) = some .shortPayload := by
  decide +kernel
theorem test_selftest_p2 :
    after (exec .selftest (ready [.ok, .ok, .ok, .ok, .ok] (exchangeReads successFrame)))
      (fun t => (t.trace.getLast?, t.status)) =
      some (some (.outcome (.ok (.text
        "SHA:PASS AES:PASS ECDH:PASS ECDSA-Sign:PASS ECDSA-Verify:PASS RNG-DRBG:PASS ".toList))), some .success) := by
  decide +kernel
theorem test_selftest_format_sha_fails :
    selftestText defaultStBits 0x20#8 =
      "SHA:FAIL AES:PASS ECDH:PASS ECDSA-Sign:PASS ECDSA-Verify:PASS RNG-DRBG:PASS ".toList := by decide +kernel
theorem test_stFail_items :
    [exec (.stFailSha 0x20#8) State.reset, exec (.stFailAes 0x10#8) State.reset, exec (.stFailEcdh 0x08#8) State.reset,
      exec (.stFailEcdsaSign 0x04#8) State.reset, exec (.stFailEcdsaVerify 0x02#8) State.reset,
      exec (.stFailRngDrbg 0x01#8) State.reset].map (fun o => after o fun t => t.text) =
      [some "SHA:FAIL ".toList, some "AES:FAIL ".toList, some "ECDH:FAIL ".toList, some "ECDSA-Sign:FAIL ".toList,
        some "ECDSA-Verify:FAIL ".toList, some "RNG-DRBG:FAIL ".toList] := by decide +kernel
theorem test_sha256_p3_frames :
    after (exec (.sha256 true [0x36#8, 0x31#8, 0x36#8, 0x32#8, 0x36#8, 0x33#8])
        (ready (List.replicate 9 .ok) (exchangeReads successFrame ++ exchangeReads successFrame)))
      (fun t => (t.trace.length, t.trace[12]?, t.trace.getLast?)) =
      some (20, some (.busWrite 0#8 0x60#8 0x03#8
          [0x0A#8, 0x47#8, 0x02#8, 0x03#8, 0x00#8, 0x61#8, 0x62#8, 0x63#8, 0x70#8, 0x53#8] .ok),
        some (.outcome (.ok (.text "SHA256 HexDigest: 00".toList)))) := by decide +kernel
theorem test_sha256_p8_decode_error :
    after (exec (.sha256 true [0x61#8, 0x62#8, 0x63#8]) State.reset) (fun t => (t.trace, t.err, t.pwr)) =
      some ([.outcome (.error .decodeError)], .decodeError, .dormant) := by decide +kernel

/-! ### Requests, refusals, the register port -/

theorem test_step_request_p6 :
    after (step { ready [.ok] [.bytes successFrame] with inputs := [.request [0x91#8, 0x02#8, 0x80#8, 0x00#8, 0x00#8]] })
      (fun t => (t.trace.length, t.trace.getLast?, t.err)) =
      some (4, some (.outcome (.error .wakeFailed)), .wakeFailed) := by decide +kernel
theorem test_reserved_refused :
    [exec (.reservedOp0 0#4 []) State.reset, exec (.reservedOpD 0#4 []) State.reset,
      exec (.reservedOpE 0#4 []) State.reset, exec (.reservedOpF 0#4 []) State.reset].map refusalOf =
      List.replicate 4 (some .reservedOperation) := by decide +kernel
theorem test_regread_reset_values :
    [CtrlReg.cfgBus, .cfgDevaddr, .cfgSettle, .cfgCmdreg, .pwr, .status, .err, .seq, .ctrl].map
      (fun c => readRegister c State.reset) =
      [.value 0#16, .value 0x60#16, .value 250#16, .value 3#16, .value 0#16, .noValue, .value 0#16, .value 0#16,
        .value 0#16] := by decide +kernel
theorem test_regwrite_truncates :
    after (portWrite .cfgDevaddr 0x1C0 State.reset) (fun t => t.cfgDevaddr) = some 0xC0#8 := by decide +kernel

/-! ### Decoding: words written out from the spec's encodings (R126, R101, R105, R110, R118, R181, R248) -/

theorem test_decode_requests :
    [[0x10#8], [0x20#8, 0#8, 0#8], [0x30#8, 1#8, 2#8, 3#8, 4#8, 5#8], [0x40#8], [0x50#8, 0x42#8], [0x60#8], [0x70#8],
      [0x80#8], [0x91#8, 0x02#8, 0x80#8, 0#8, 0#8], [0xA0#8], [0xB0#8], [0xC2#8, 0x36#8, 0x31#8]].map decodeRequest =
      [.ok (.crc16 []), .ok (.crcchk [0#8, 0#8]), .ok (.encode 1#8 2#8 3#8 4#8 [5#8]), .ok (.verify []),
        .ok (.stdec 0x42#8), .ok .wake, .ok .sleep, .ok .idle, .ok (.execute true 0x02#8 0x80#8 0#8 0#8 []),
        .ok .idread, .ok .selftest, .ok (.sha256 true [0x36#8, 0x31#8])] := by decide +kernel
theorem test_decode_reserved :
    [[0x05#8], [0xD0#8, 1#8], [0xEE#8], [0xFF#8]].map decodeRequest =
      [.ok (.reservedOp0 5#4 []), .ok (.reservedOpD 0#4 [1#8]), .ok (.reservedOpE 0xE#4 []),
        .ok (.reservedOpF 0xF#4 [])] := by decide +kernel
theorem test_decode_refused :
    [[], [0x11#8], [0x92#8, 0#8, 0#8, 0#8, 0#8], [0x61#8], [0x60#8, 0#8], [0x20#8, 0#8], [0x50#8], [0xC1#8]].map
      decodeRequest =
      [.error .emptyRequest, .error .reservedFlags, .error .reservedFlags, .error .reservedFlags,
        .error .unexpectedOperands, .error .missingOperands, .error .missingOperands, .error .reservedFlags] := by
  decide +kernel
theorem test_decode_command_frames :
    [[0x07#8, 0x02#8, 0x80#8, 0#8, 0#8, 0x09#8, 0xAD#8], [0x07#8, 0x77#8, 0x3B#8, 0#8, 0#8, 0x9D#8, 0xFB#8],
      [0x07#8, 0x47#8, 0#8, 0#8, 0#8, 0x2E#8, 0x85#8], [0x09#8, 0x47#8, 0x02#8, 0x02#8, 0#8, 0x80#8, 0x81#8, 0xF5#8, 0xF2#8],
      [0x0A#8, 0xAA#8, 0xBB#8, 0xCC#8, 0xDD#8, 1#8, 2#8, 3#8, 0xC7#8, 0xD5#8]].map (decode defaultParams .commandFrame) =
      [.ok .readId, .ok .selftestAll, .ok .shaStart, .ok (.shaEnd [0x80#8, 0x81#8]),
        .ok (.cmdGeneric 0xAA#8 0xBB#8 0xCC#8 0xDD#8 [1#8, 2#8, 3#8])] := by decide +kernel
theorem test_decode_sha_update :
    decode defaultParams .commandFrame
      ([0x47#8, 0x47#8, 0x01#8, 0x40#8, 0#8] ++ (List.range 64).map (BitVec.ofNat 8) ++ [0x9A#8, 0x4B#8]) =
      .ok (.shaUpdate ((List.range 64).map (BitVec.ofNat 8))) := by decide +kernel
theorem test_decode_response_frames :
    [successFrame, [0x06#8, 0xDE#8, 0xAD#8, 0xBE#8, 0x4A#8, 0x39#8], [0x04#8, 0#8, 0x03#8],
      [0x04#8, 0#8, 0x03#8, 0x41#8]].map (decode defaultParams .responseFrame) =
      [.ok (.respStatus 0x04#8 0x00#8), .ok (.respData 0x06#8 [0xDE#8, 0xAD#8, 0xBE#8]), .error .frameTooShort,
        .error .checksumMismatch] := by decide +kernel
theorem test_decode_control_writes :
    [decode defaultParams (.controlWrite .wakeReg0) [0#8], decode defaultParams (.controlWrite .devCommand) [1#8],
      decode defaultParams (.controlWrite .devCommand) [2#8], decode defaultParams (.controlWrite .devReg0) [0#8],
      decode defaultParams (.controlWrite .devCommand) [3#8]] =
      [.ok .wakeWr, .ok .sleepWr, .ok .idleWr, .ok .trigWr, .error .noSuchControlWrite] := by decide +kernel
theorem test_decode_status_bytes :
    [0x00#8, 0x01#8, 0x03#8, 0x05#8, 0x07#8, 0x08#8, 0x0F#8, 0x11#8, 0xEE#8, 0xFF#8, 0x42#8].map
      (fun b => decode defaultParams .statusByte [b]) =
      [.ok .statusSuccess, .ok .statusChecksumOrVerifyMiscompare, .ok .statusParseError, .ok .statusEccFault,
        .ok .statusSelfTestError, .ok .statusHealthTestError, .ok .statusExecutionError,
        .ok .statusAfterWakeBeforeFirstCommand, .ok .statusWatchdogExpiringSoon, .ok .statusCommunicationError,
        .ok (.statusUnknown 0x42#8)] := by decide +kernel
theorem test_decode_mask_bits :
    [decode defaultParams (.selfTestMask .sha) [0x20#8], decode defaultParams (.selfTestMask .aes) [0x10#8],
      decode defaultParams (.selfTestMask .ecdh) [0x08#8], decode defaultParams (.selfTestMask .ecdsaSign) [0x04#8],
      decode defaultParams (.selfTestMask .ecdsaVerify) [0x02#8], decode defaultParams (.selfTestMask .rngDrbg) [0x01#8],
      decode defaultParams (.selfTestMask .sha) [0xDF#8]] =
      [.ok (.stFailSha 0x20#8), .ok (.stFailAes 0x10#8), .ok (.stFailEcdh 0x08#8), .ok (.stFailEcdsaSign 0x04#8),
        .ok (.stFailEcdsaVerify 0x02#8), .ok (.stFailRngDrbg 0x01#8), .error .maskBitClear] := by decide +kernel
theorem test_table_words :
    [decodeTableWord 8 0x20, decodeTableWord 8 0x91, decodeTableWord 40 0x0702800000, decodeTableWord 40 0x0047020000,
      decodeTableWord 32 0x40030004] =
      [some (.crcchk [0#8, 0#8]), some (.execute true 0#8 0#8 0#8 0#8 []), some .readId, some (.shaEnd []),
        some (.respStatus 0x04#8 0x00#8)] := by decide +kernel
theorem test_withFetchWord_runs_sleep :
    after (step (State.reset.withFetchWord 8 0x70)) (fun t => t.seq) = some ⟨.sleep, .off, .off, .sWrite⟩ := by
  decide +kernel
theorem test_withFetchWord_runs_readId :
    nextOf (step (State.reset.withFetchWord 40 0x0702800000)) =
      nextOf (exec .readId { State.reset.withFetchWord 40 0x0702800000 with inputs := [] }) := by rfl

/-! ### WellFormed refuses -/

theorem test_wellFormed_crcchk_one_byte : wellFormed defaultParams (.crcchk [0#8]) = false := by decide
theorem test_wellFormed_encode_249 :
    wellFormed defaultParams (.encode 0#8 0#8 0#8 0#8 (List.replicate 249 0#8)) = false := by decide +kernel
theorem test_wellFormed_execute_249 :
    wellFormed defaultParams (.execute true 0#8 0#8 0#8 0#8 (List.replicate 249 0#8)) = false := by decide +kernel
theorem test_wellFormed_generic_is_a_row :
    wellFormed defaultParams (.cmdGeneric 0x02#8 0x80#8 0#8 0#8 []) = false := by decide +kernel
theorem test_wellFormed_generic_249 :
    wellFormed defaultParams (.cmdGeneric 0#8 0#8 0#8 0#8 (List.replicate 249 0#8)) = false := by decide +kernel
theorem test_wellFormed_update_63 : wellFormed defaultParams (.shaUpdate (List.replicate 63 0#8)) = false := by
  decide +kernel
theorem test_wellFormed_end_64 : wellFormed defaultParams (.shaEnd (List.replicate 64 0#8)) = false := by
  decide +kernel
theorem test_wellFormed_resp_one_byte : wellFormed defaultParams (.respData 0#8 [0#8]) = false := by decide +kernel
theorem test_wellFormed_unknown_of_known : wellFormed defaultParams (.statusUnknown 0x11#8) = false := by decide +kernel
theorem test_wellFormed_mask_bit_clear : wellFormed defaultParams (.stFailSha 0xDF#8) = false := by decide +kernel
theorem test_wellFormed_status_byte_taken :
    wellFormed { defaultParams with statusMap := { defaultStatusMap with eccFault := 0x03#8 } } .statusEccFault = false := by
  decide +kernel
theorem test_wellFormed_rows_overlap :
    wellFormed { defaultParams with opcSha := 0x02#8, shaStart := 0x80#8 } .shaStart = false := by decide +kernel

/-! ### Witnesses: for each statement of the obligations file with hypotheses, states and operands that meet them -/

/-- The state a sequencer step leads to. -/
def movedOf (r : SeqResult) : Option State :=
  match r with
  | .moved t => some t
  | _ => none

/-- An operation in progress at this sequencer value, with these answers to come. -/
def atSeq (q : Seq) (ws : List WrAnswer) (rs : List RdAnswer) : State := { ready ws rs with busy := true, seq := q }

/-- An exchange that goes through, with this response. -/
def goodExchange (resp : Bytes) : Exchange := ⟨.err 1, wakeFrame, BitVec.ofNat 8 resp.length, resp, .err 2⟩

theorem goodExchange_success : (goodExchange successFrame).good defaultStatusMap :=
  ⟨by decide +kernel, some .success, by decide +kernel⟩

theorem goodExchange_id : (goodExchange idFrame).good defaultStatusMap :=
  ⟨by decide +kernel, none, by decide +kernel⟩

/-- For every statement that asks for an undisturbed machine with answers of the transport. -/
theorem witness_Undisturbed (ws : List WrAnswer) (rs : List RdAnswer) : Undisturbed (ready ws rs) := ⟨rfl, rfl⟩
/-- For every statement that asks for no operation in progress: CRC16, CRCCHK, ENCODE, VERIFY, STDEC, and the data bounds. -/
theorem witness_idle_and_data_bounds :
    State.reset.busy = false ∧ State.reset.inputs = [] ∧ ([] : Bytes).length ≤ 248 ∧ (List.replicate 248 0#8).length ≤ 248 ∧
      248 < (List.replicate 249 0#8).length ∧ ([0#8] : Bytes).length < 2 := by decide +kernel
theorem witness_ChecksumLinear_equal_lengths : ([0x01#8] : Bytes).length = ([0x80#8] : Bytes).length := by decide
theorem witness_FrameInjectivity_equal_frames :
    commandFrame 1#8 2#8 3#8 4#8 [5#8] = commandFrame 1#8 2#8 3#8 4#8 [5#8] := rfl
/-- A buffer for each clause of the VERIFY statement, at its boundary lengths and bytes. -/
theorem witness_VerifyChecksInOrder :
    [[], [4#8, 0#8, 3#8], [0x04#8, 0x00#8, 0x03#8, 0x41#8], [0x04#8, 0x42#8, 0x8F#8, 0x41#8],
      [0x04#8, 0x01#8, 0x00#8, 0xC3#8], successFrame, [0x06#8, 0xDE#8, 0xAD#8, 0xBE#8, 0x4A#8, 0x39#8]].map
        checkResponse =
      [.malformed, .malformed, .badChecksum, .status 0x42#8, .status 0x01#8, .status 0x00#8,
        .data [0xDE#8, 0xAD#8, 0xBE#8]] ∧
    stdec defaultStatusMap 0x42#8 = .unknown ∧ stdec defaultStatusMap 0x01#8 ≠ .unknown ∧ escalates 0x01#8 = true ∧
      escalates 0x0F#8 = true ∧ escalates 0xFF#8 = true ∧ escalates 0x00#8 = false ∧ escalates 0x11#8 = false := by
  decide +kernel
theorem witness_StdecDeliversTheTableRow :
    statusMapValid State.reset.par.statusMap = true ∧
      statusByte State.reset.par.statusMap .communicationError = some 0xFF#8 := by decide +kernel
theorem witness_rows_at_the_response :
    let s := atSeq ⟨.execute, .off, .xVerify, .off⟩ [] []
    s.seq.w = .off ∧ s.seq.x = .xVerify ∧ 2 ≤ ([0#8, 0#8] : Bytes).length := by decide
/-- Both verifying steps with frames of 3, 4 (good, bad) and 6 bytes, `STATUS` before them Success. -/
theorem witness_verifying_steps :
    ([[4#8, 0#8, 3#8], wakeFrame, [0x04#8, 0x00#8, 0x03#8, 0x41#8], [0x06#8, 0xDE#8, 0xAD#8, 0xBE#8, 0x4A#8, 0x39#8]].map
      fun buf => [(⟨.execute, .off, .xVerify, .off⟩ : Seq), ⟨.wake, .off, .off, .wVerify⟩].map fun q =>
        match seqStep { atSeq q [] [] with rxbuf := buf, status := some .success } with
        | .moved t => some t.status
        | _ => none) =
      [[some (some .success), some (some .success)],
        [some (some .afterWakeBeforeFirstCommand), some (some .afterWakeBeforeFirstCommand)], [some none, some none],
        [some (some .success), some (some .success)]] := by decide +kernel
theorem witness_StatusRowsAtTheWake :
    let s := atSeq ⟨.execute, .off, .xWake, .wVerify⟩ [] []
    statusMapValid s.par.statusMap = true ∧ s.seq = ⟨.execute, .off, .xWake, .wVerify⟩ ∧
      s.par.statusMap.afterWake = 0x11#8 ∧ (0x00#8 : Byte) ≠ s.par.statusMap.afterWake := by decide +kernel
theorem witness_Wake_statements :
    verifyResult State.reset.par.statusMap wakeFrame = .ok [0x11#8] (some .afterWakeBeforeFirstCommand) ∧
      verifyResult State.reset.par.statusMap successFrame = .ok [0x00#8] (some .success) := by decide +kernel
theorem witness_WakeFailsOnAnyOtherStatus (p : Bytes) :
    verifyResult State.reset.par.statusMap successFrame ≠ .ok p (some .afterWakeBeforeFirstCommand) := by
  rw [witness_Wake_statements.2]
  simp
theorem witness_answers_at_reset :
    (ready [.err 1] [.bytes wakeFrame]).wrAns = [.err 1] ∧ (ready [.ok] [.err 7]).rdAns = [.err 7] ∧
      (ready [.ok] []).busy = false := by decide
theorem witness_WakeWriteRow : (atSeq ⟨.wake, .off, .off, .wWrite⟩ [.ok] []).wrAns = [.ok] := rfl
theorem witness_SleepWriteRow :
    let s := atSeq ⟨.sleep, .off, .off, .sWrite⟩ [.ok] []
    let t := { atSeq ⟨.idread, .lSleep, .off, .sWrite⟩ [.ok] [] with err := .wakeFailed }
    StateInv s = true ∧ s.err = .none ∧ StateInv t = true ∧ raisedError t = some .wakeFailed := by decide +kernel
theorem witness_IdleWriteRow :
    let s := atSeq ⟨.idle, .off, .off, .iWrite⟩ [.ok] []
    let t := { atSeq ⟨.execute, .off, .xExit, .iWrite⟩ [.ok] [] with err := .malformedFrame, idlep := true, wrap := true }
    StateInv s = true ∧ s.err = .none ∧ StateInv t = true ∧ raisedError t = some .malformedFrame := by decide +kernel
theorem witness_IdleWriteRowInALibraryOperation :
    let base := { atSeq ⟨.sha256, .lUpdate, .xExit, .iWrite⟩ [.ok] [] with
      idlep := true, wrap := true, rxbuf := successFrame }
    let failed := { base with err := .wakeFailed, par := { base.par with libSleepOnError := true } }
    let silent := { base with err := .wakeFailed, par := { base.par with libSleepOnError := false } }
    StateInv base = true ∧ StateInv { base with seq := ⟨.sha256, .lEnd, .xExit, .iWrite⟩ } = true ∧
      StateInv { base with seq := ⟨.idread, .lExec, .xExit, .iWrite⟩ } = true ∧ StateInv failed = true ∧
      StateInv silent = true ∧ raisedError silent = some .wakeFailed := by decide +kernel
theorem witness_TriggerWriteRow :
    (atSeq ⟨.execute, .off, .xTrig, .off⟩ [.ok] []).wrAns = [.ok] ∧
      (atSeq ⟨.execute, .off, .xTrig, .off⟩ [.err 3] []).wrAns = [.err 3] := ⟨rfl, rfl⟩
theorem witness_DiscardedAnswersChangeNothing :
    [after (exec .wakeWr (atSeq ⟨.wake, .off, .off, .wWrite⟩ [.err 1] [])) (fun t => t.seq.w),
      after (exec .sleepWr (atSeq ⟨.sleep, .off, .off, .sWrite⟩ [.err 1] [])) (fun t => t.seq.w),
      after (exec .idleWr (atSeq ⟨.idle, .off, .off, .iWrite⟩ [.err 1] [])) (fun t => t.seq.w)] =
      [some .wSettle, some .off, some .off] := by decide +kernel
theorem witness_UnansweredCallWaits :
    [(⟨.wake, .off, .off, .wWrite⟩ : Seq), ⟨.sleep, .off, .off, .sWrite⟩, ⟨.idle, .off, .off, .iWrite⟩,
      ⟨.execute, .off, .xWrcmd, .off⟩, ⟨.execute, .off, .xTrig, .off⟩, ⟨.wake, .off, .off, .wRead⟩,
      ⟨.execute, .off, .xRdlen, .off⟩, ⟨.execute, .off, .xRdfrm, .off⟩].all
      (fun q => seqStep (atSeq q [] []) == .stay) = true := by decide +kernel
theorem witness_PowerChangesOnlyInPowerSteps :
    [movedOf (seqStep (atSeq ⟨.sleep, .off, .off, .sWrite⟩ [.ok] [])),
      movedOf (seqStep (atSeq ⟨.idle, .off, .off, .iWrite⟩ [.ok] [])),
      movedOf (seqStep { atSeq ⟨.wake, .off, .off, .wVerify⟩ [] [] with rxbuf := wakeFrame }),
      movedOf (seqStep { atSeq ⟨.wake, .off, .off, .wVerify⟩ [] [] with rxbuf := successFrame, pwr := .idle }),
      movedOf (seqStep (atSeq ⟨.wake, .off, .off, .wWrite⟩ [.ok] []))].map (Option.map State.pwr) =
      [some .dormant, some .idle, some .awake, some .idle, some .dormant] := by decide +kernel
theorem witness_ExecuteWrappedExchange :
    let g := goodExchange successFrame
    (ready g.writes g.reads).wrAns = g.writes ++ [] ∧ (ready g.writes g.reads).rdAns = g.reads ++ [] ∧
      (ready g.writes g.reads).par.statusMap = defaultStatusMap := by decide
theorem witness_ExecuteUnwrappedExchange :
    let s := ready [.ok, .ok] [.bytes [4#8], .bytes successFrame]
    verifyResult s.par.statusMap successFrame = .ok (payloadOf successFrame) (some .success) ∧
      s.wrAns = [.ok, .ok] ∧ s.rdAns = [.bytes [4#8], .bytes successFrame] := by decide +kernel
theorem witness_ExecuteBodyErrorStillIdles :
    (BodyFailure.command 1).genuine defaultStatusMap ∧ (BodyFailure.trigger 1).genuine defaultStatusMap ∧
      (BodyFailure.length 1).genuine defaultStatusMap ∧ (BodyFailure.frame 0#8 1).genuine defaultStatusMap ∧
      (BodyFailure.response 3#8 [4#8, 0#8, 3#8] .malformedFrame).genuine defaultStatusMap := by
  refine ⟨trivial, trivial, trivial, trivial, ?_⟩
  show verifyResult _ _ = _
  decide +kernel
theorem witness_ExecuteFailedWakeStopsAtOnce :
    let s := ready [.ok] [.err 9]
    (∃ e, s.rdAns = [.err e] ∧ OpError.transportError e = .transportError 9) ∧
      (ready [.ok] [.bytes successFrame]).rdAns = [.bytes successFrame] := ⟨⟨9, rfl, rfl⟩, rfl⟩
/-- A state of the first clause, and the runs of the others: EXECUTE with `w = 0` and `w = 1`, SHA256 after its Start. -/
theorem witness_ShortAnswersFault :
    let g := goodExchange successFrame
    let s := { atSeq ⟨.selftest, .lExec, .xRdlen, .off⟩ [] [.bytes []] with wrap := true, idlep := true }
    StateInv s = true ∧ (payloadOf g.resp).length < 13 ∧
      [step s, step { s with inputs := [.pass] }, exec (.execute false 1#8 2#8 3#8 4#8 []) (ready [.ok, .ok] [.bytes []]),
        exec (.execute true 1#8 2#8 3#8 4#8 []) (ready [.err 1, .ok, .ok] [.bytes wakeFrame, .bytes []]),
        exec .idread (ready [.ok, .ok, .ok] [.bytes wakeFrame, .bytes []]),
        exec (.sha256 false []) (ready (g.writes ++ [.ok, .ok, .ok]) (g.reads ++ [.bytes wakeFrame, .bytes []]))].map
          faultOf = List.replicate 6 (some .noLengthByte) := by
  decide +kernel
theorem witness_CommandFrameRows :
    let s := atSeq ⟨.execute, .off, .xWrcmd, .off⟩ [.ok] []
    s.seq.w = .off ∧ s.seq.x = .xWrcmd ∧ s.wrAns = [.ok] ∧ (List.replicate 64 0#8).length = 64 ∧
      (List.replicate 63 0#8).length < 64 := by decide +kernel
theorem witness_IdreadDelivers :
    13 ≤ (payloadOf (goodExchange idFrame).resp).length ∧
      (ready ((goodExchange idFrame).writes ++ [.ok]) (goodExchange idFrame).reads).wrAns =
        (goodExchange idFrame).writes ++ [.ok] := by decide +kernel
theorem witness_SelftestDelivers :
    (ready ((goodExchange successFrame).writes ++ [.ok]) (goodExchange successFrame).reads).rdAns =
      (goodExchange successFrame).reads ++ [] := by decide
/-- The premises of the SHA256 statement for the one-block message of 64 bytes: Start, one Update, End. -/
theorem witness_Sha256RunsEveryBlock :
    let g := goodExchange successFrame
    let msg := List.replicate 64 0#8
    let s := ready ([g, g, g].flatMap Exchange.writes ++ [.ok]) ([g, g, g].flatMap Exchange.reads)
    [g, g].length = 1 + msg.length / 64 ∧ s.wrAns = ([g, g] ++ [g]).flatMap Exchange.writes ++ [.ok] ∧
      s.rdAns = ([g, g] ++ [g]).flatMap Exchange.reads ++ [] ∧
      hexDecode (List.replicate 128 0x30#8) = some msg := by decide +kernel
theorem witness_Sha256RejectsBadHex : hexDecode [0x7A#8, 0x7A#8] = none := by decide +kernel
/-- SHA256 on 64 bytes whose Start exchange goes through and whose Update fails at its trigger write. -/
theorem witness_LibraryErrorPath :
    let f := ExchangeFailure.body (.err 1) wakeFrame (.trigger 7) .ok
    let g := goodExchange successFrame
    let base := ready (g.writes ++ f.writes ++ [.ok]) (g.reads ++ f.reads)
    let run := fun sleep => exec (.sha256 false (List.replicate 64 0x61#8))
      { base with par := { base.par with libSleepOnError := sleep } }
    [g].length < (shaFrames base.par (List.replicate 64 0x61#8)).length ∧ f.inWake = false ∧
      after (run true) (fun t => (t.trace.length, t.trace.drop 16, t.pwr, t.wrAns)) =
        some (18, [.busWrite 0#8 0x60#8 0x03#8 [0x01#8] .ok, .outcome (.error (.transportError 7))], .dormant, []) ∧
      after (run false) (fun t => (t.trace.drop 14, t.pwr, t.wrAns)) =
        some ([.busWrite 0#8 0x60#8 0x00#8 [0x00#8] (.err 7), .busWrite 0#8 0x60#8 0x03#8 [0x02#8] .ok,
          .outcome (.error (.transportError 7))], .idle, [.ok]) := by
  decide +kernel
theorem witness_LibraryErrorPath_genuine :
    (ExchangeFailure.body (.err 1) wakeFrame (.trigger 7) .ok).genuine defaultStatusMap ∧
      (ExchangeFailure.wake .ok (.err 3) (.transportError 3)).genuine defaultStatusMap :=
  ⟨⟨by decide +kernel, trivial⟩, rfl⟩
theorem witness_SelftestRows :
    (0x3F#8).getLsbD 5 = true ∧ (0x3F#8).getLsbD State.reset.par.stBits.aes.val = true ∧
      (0x3F#8).getLsbD State.reset.par.stBits.rngDrbg.val = true ∧
      (0x3F#8).getLsbD State.reset.par.stBits.ecdh.val = true ∧
      (0x3F#8).getLsbD State.reset.par.stBits.ecdsaSign.val = true ∧
      (0x3F#8).getLsbD State.reset.par.stBits.ecdsaVerify.val = true := by decide
theorem witness_UnitOperationFrame :
    (nextOf (exec (.stdec 0x42#8) State.reset)).isSome = true ∧
      (nextOf (exec .trigWr (atSeq ⟨.execute, .off, .xTrig, .off⟩ [.ok] []))).isSome = true := by decide +kernel
theorem witness_BusyRefusesEveryRequest :
    let s := { atSeq ⟨.wake, .off, .off, .wWrite⟩ [] [] with inputs := [.request [0x60#8]] }
    s.busy = true ∧ s.inputs = [.request [0x60#8]] ∧ refusalOf (step s) = some .busy := by decide +kernel
/-- A request for each ground of R130, at the boundary of its range; the ENCODE has 249 data bytes. -/
theorem witness_RequestsWithoutMeaningAreRefused :
    ([[], [0x00#8], [0xF5#8, 1#8], [0x61#8], [0x92#8, 1#8, 2#8, 3#8, 4#8], [0xC1#8], [0x20#8, 0#8], [0x30#8, 1#8, 2#8, 3#8],
      0x30#8 :: List.replicate 253 0#8, [0x50#8], [0x50#8, 1#8, 2#8], [0xB0#8, 0#8]].all fun bytes =>
        (refusalOf (step { State.reset with inputs := [.request bytes] })).isSome) = true ∧
      decode State.reset.par .hostRequest [0x61#8] = .error .reservedFlags := by decide +kernel
theorem witness_PowerIsReadByNoRule :
    let hide := fun t : State => { t with pwr := .dormant, portReplies := [] }
    hide { State.reset with pwr := .idle, portReplies := [.noValue] } = hide { State.reset with pwr := .awake } := rfl
theorem witness_register_port :
    let s := { State.reset with inputs := [.regRead .status, .regWrite .cfgBus 257, .regWrite .pwr 0] }
    s.inputs.head? = some (.regRead .status) ∧ s.status = none ∧ s.busy = false := by decide +kernel
theorem witness_register_write_while_busy :
    let s := { atSeq ⟨.wake, .off, .off, .wWrite⟩ [] [] with inputs := [.regWrite .cfgDevaddr 1] }
    s.busy = true ∧ refusalOf (step s) = some .registerWriteWhileBusy := by decide +kernel
theorem witness_StepRunsTheDecodedRequest :
    let s := { State.reset with inputs := [.request [0x50#8, 0x42#8]] }
    s.inputs = [.request [0x50#8, 0x42#8]] ∧ decode s.par .hostRequest [0x50#8, 0x42#8] = .ok (.stdec 0x42#8) := by decide +kernel
/-- A state for each kind of wire row the sequencer stands at. -/
theorem witness_StepRunsTheWireRow :
    let rows := [atSeq ⟨.wake, .off, .off, .wWrite⟩ [.ok] [], atSeq ⟨.sleep, .off, .off, .sWrite⟩ [.ok] [],
      atSeq ⟨.idle, .off, .off, .iWrite⟩ [.ok] [], atSeq ⟨.execute, .off, .xTrig, .off⟩ [.ok] [],
      State.reset.withFetchWord 40 0x0702800000, State.reset.withFetchWord 32 0x40030004,
      { atSeq ⟨.wake, .off, .off, .wVerify⟩ [] [] with rxbuf := wakeFrame }]
    rows.all (fun s => StateInv s && s.busy && decide (s.inputs = [] ∨ s.inputs = [.pass])) = true ∧
      rows.map wireInstr =
        [some .wakeWr, some .sleepWr, some .idleWr, some .trigWr, some .readId, some (.respStatus 0x04#8 0x00#8),
          some (.respStatus 0x04#8 0x11#8)] := by decide +kernel
theorem witness_TransportAnswersAreQueued :
    let s := { atSeq ⟨.wake, .off, .off, .wRead⟩ [] [] with inputs := [.readAnswer (.bytes wakeFrame), .pass, .pass] }
    s.inputs.head? = some (.readAnswer (.bytes wakeFrame)) ∧
      after (step s) (fun t => t.rdAns) = some [.bytes wakeFrame] := by decide +kernel
theorem witness_step_of_the_invariant :
    let s := { atSeq ⟨.execute, .off, .xArm, .off⟩ [] [] with wrap := true }
    StateInv s = true ∧ (nextOf (step s)).isSome = true ∧ (movedOf (seqStep s)).isSome = true := by decide +kernel
theorem witness_OperationEndsOrWaits :
    after (exec .wake (ready [.ok] [])) (fun t => (t.busy, t.seq.w)) = some (true, .wRead) ∧
      after (exec .wake (ready [.ok] [.bytes wakeFrame])) (fun t => (t.busy, t.seq.w)) = some (false, .off) := by
  decide +kernel
/-- Register reads of `SEQ` between the steps of an EXECUTE with `w = 0` and of a SHA256 (R132, R29). -/
theorem witness_InputsLandBetweenSteps :
    let reads := [Input.regRead .seq, .pass, .regRead .seq, .pass, .regRead .seq, .pass, .regRead .seq]
    let replies := fun i => after (stepsAfter 7 (exec i { State.reset with inputs := reads })) fun t => t.portReplies
    replies (.execute false 1#8 2#8 3#8 4#8 []) =
        some [.value 0x9010#16, .value 0x9020#16, .value 0x9030#16, .value 0x9040#16] ∧
      replies (.sha256 false []) = some [.value 0xC100#16, .value 0xC211#16, .value 0xC211#16, .value 0xC211#16] := by
  decide +kernel
/-- The end of an EXECUTE with register reads between its steps is that of the undisturbed one. -/
theorem witness_InputsLandBetweenSteps_end :
    let s := ready [.ok, .ok] [.bytes [0x04#8], .bytes successFrame]
    let ins := (List.replicate 12 [Input.regRead .ctrl, .pass]).flatten
    let i := Instr.execute false 0x02#8 0x80#8 0x00#8 0x00#8 []
    after (stepsAfter 24 (exec i { s with inputs := ins })) (fun t => (t.trace, t.busy, t.inputs.length)) =
      after (exec i s) (fun t => (t.trace, t.busy, 0)) ∧ after (exec i s) (fun t => t.trace.length) = some 6 := by decide +kernel
theorem witness_ConfigurationIsStable :
    let s := { State.reset with inputs := [.regRead .pwr] }
    (nextOf (step s)).isSome = true ∧ s.inputs.head? = some (.regRead .pwr) := by decide +kernel
theorem witness_FirstErrorStays :
    let s := { atSeq ⟨.execute, .off, .xExit, .off⟩ [] [] with err := .checksumMismatch }
    StateInv s = true ∧ (movedOf (seqStep s)).isSome = true ∧ s.err ≠ .none := by decide +kernel
theorem witness_DecodeOfEncode :
    [Instr.execute true 1#8 2#8 3#8 4#8 [5#8], .shaEnd [1#8], .cmdGeneric 1#8 2#8 3#8 4#8 [], .respData 7#8 [0#8, 0#8],
      .idleWr, .statusUnknown 0x42#8, .stFailAes 0x10#8].all (wellFormed defaultParams) = true := by decide +kernel
theorem witness_EncodeOfDecode :
    decode defaultParams .responseFrame [0x06#8, 0xDE#8, 0xAD#8, 0xBE#8, 0x4A#8, 0x39#8] =
      .ok (.respData 0x06#8 [0xDE#8, 0xAD#8, 0xBE#8]) := by decide +kernel

end Sys2Proof.Tests
end

section
/-! What `verify` and the formatting step can do, said once (R164, R204, R229; R242, R249, R260). -/

namespace Sys2Proof.Machine

/-- The operations of the command library (R28, R240). -/
def libraryOp : OpCode → Bool
  | .idread => true
  | .selftest => true
  | .sha256 => true
  | _ => false

variable {s : State}

/-- `verify` writes at most `CRC`, `STB` and `STATUS` (R164). -/
theorem verifyWrites_eq (s : State) :
    ∃ c b st, verifyWrites s = { s with crc := c, stb := b, status := st } := by
  unfold verifyWrites
  split
  · exact ⟨s.crc, s.stb, s.status, rfl⟩
  · exact ⟨_, s.stb, _, rfl⟩
  · exact ⟨_, _, _, rfl⟩
  · exact ⟨_, s.stb, s.status, rfl⟩

@[simp] theorem verifyWrites_seq (s : State) : (verifyWrites s).seq = s.seq := by
  obtain ⟨c, b, st, hv⟩ := verifyWrites_eq s
  rw [hv]

@[simp] theorem verifyWrites_rxbuf (s : State) : (verifyWrites s).rxbuf = s.rxbuf := by
  obtain ⟨c, b, st, hv⟩ := verifyWrites_eq s
  rw [hv]

/-- Only a frame of at least four bytes verifies (R165). -/
theorem length_of_verifyResult_ok {m : StatusMap} {buf p : Bytes} {st : Option Status}
    (h : verifyResult m buf = .ok p st) : 4 ≤ buf.length := by
  by_contra hlt
  have : checkResponse buf = .malformed := if_pos (not_le.1 hlt)
  simp [verifyResult, this] at h

/-! ### The result of `verify` at each step that asks for it -/

/-- The end of the unit operation VERIFY (R164, R290 (a)). -/
def deliverVerified (r : VerifyResult) (s : State) : State :=
  match r with
  | .ok p st => deliver (.ok (.payload p st)) s
  | .error e => deliver (.error e) (setError e s)

theorem finishVerify_afterWake (hw : s.seq.w = .wVerify) (p : Bytes) :
    finishVerify (.ok p (some .afterWakeBeforeFirstCommand)) s = .moved (wakeDone s) := by
  unfold finishVerify
  rw [hw]

theorem finishVerify_wakeFailed (hw : s.seq.w = .wVerify) {r : VerifyResult}
    (hr : ∀ p, r ≠ .ok p (some .afterWakeBeforeFirstCommand)) : finishVerify r s = raise .wakeFailed s := by
  unfold finishVerify
  rw [hw]
  rcases r with ⟨p, _ | st⟩ | e
  · rfl
  · cases st
    case afterWakeBeforeFirstCommand => exact absurd rfl (hr p)
    all_goals rfl
  · rfl

theorem finishVerify_execute_ok (hw : s.seq.w ≠ .wVerify) (hx : s.seq.x = .xVerify) (p : Bytes) (st : Option Status) :
    finishVerify (.ok p st) s = .moved (enterExit s) := by
  unfold finishVerify
  rw [hx]
  cases hw' : s.seq.w
  case wVerify => exact absurd hw' hw
  all_goals rfl

theorem finishVerify_execute_error (hw : s.seq.w ≠ .wVerify) (hx : s.seq.x = .xVerify) (e : OpError) :
    finishVerify (.error e) s = raise e s := by
  unfold finishVerify
  rw [hx]
  cases hw' : s.seq.w
  case wVerify => exact absurd hw' hw
  all_goals rfl

theorem finishVerify_unit (hw : s.seq.w ≠ .wVerify) (hx : s.seq.x ≠ .xVerify) (r : VerifyResult) :
    finishVerify r s = .moved (deliverVerified r s) := by
  unfold finishVerify
  cases hw' : s.seq.w
  case wVerify => exact absurd hw' hw
  all_goals
    cases hx' : s.seq.x
    case xVerify => exact absurd hx' hx
    all_goals cases r <;> rfl

/-! ### The formatting step -/

/-- The output text of the library operation in progress, or the fault of a payload too short for it. -/
def outputText (s : State) : Except Fault Text :=
  match s.seq.op with
  | .idread => if (payloadOf s.rxbuf).length < 13 then .error .shortPayload else .ok (idreadText (payloadOf s.rxbuf))
  | .selftest =>
    match payloadOf s.rxbuf with
    | [] => .error .shortPayload
    | mask :: _ => .ok (selftestText s.par.stBits mask)
  | .sha256 => .ok (shaText (payloadOf s.rxbuf))
  | _ => .error .sequencerOutsideTable

/-- `L_FORMAT` goes to the sleep with the output text (R244). -/
theorem lFormatStep_ok {text : Text} (h : outputText s = .ok text) :
    lFormatStep s = .moved (enterSleep { s with text := text }) := by
  unfold outputText at h
  unfold lFormatStep
  cases hop : s.seq.op <;> simp only [hop] at h ⊢
  case idread =>
    split at h <;> cases h
    exact if_neg ‹_›
  case selftest =>
    cases hp : payloadOf s.rxbuf <;> simp only [hp] at h <;> cases h
    rfl
  case sha256 => cases h; rfl
  all_goals cases h

theorem lFormatStep_error {f : Fault} (h : outputText s = .error f) : lFormatStep s = .fault f := by
  unfold outputText at h
  unfold lFormatStep
  cases hop : s.seq.op <;> simp only [hop] at h ⊢
  case idread =>
    split at h <;> cases h
    exact if_pos ‹_›
  case selftest =>
    cases hp : payloadOf s.rxbuf <;> simp only [hp] at h <;> cases h
    rfl
  case sha256 => cases h
  all_goals cases h; rfl

/-- A library operation has an output text, or its payload is too short. -/
theorem outputText_error {f : Fault} (hop : libraryOp s.seq.op = true) (h : outputText s = .error f) :
    f = .shortPayload := by
  cases hop' : s.seq.op <;> simp only [libraryOp, hop', Bool.false_eq_true] at hop <;> simp only [outputText, hop'] at h
  case idread =>
    split at h <;> cases h
    rfl
  case selftest =>
    cases hp : payloadOf s.rxbuf <;> simp only [hp] at h <;> cases h
    rfl
  case sha256 => cases h

/-! ### The preparing step -/

/-- The message bytes of the request's text, if it decodes (R256, R262). -/
def messageBytes (s : State) : Option Bytes := if s.hashHex then hexDecode s.hashText else some s.hashText

theorem lPrepStep_none (h : messageBytes s = none) : lPrepStep s = raise .decodeError s := by
  unfold messageBytes at h
  unfold lPrepStep
  rw [h]

theorem lPrepStep_some {m : Bytes} (h : messageBytes s = some m) :
    lPrepStep s =
      .moved (beginLibExecute .lExec s.par.opcSha s.par.shaStart 0#8 0#8 [] { s with msg := m, blk := 0 }) := by
  unfold messageBytes at h
  unfold lPrepStep
  rw [h]

/-! ### After the last step of a wake and of an idle write -/

/-- A wake inside an EXECUTE goes on to `X_ARM` (R221). -/
theorem wakeDone_execute (hx : s.seq.x = .xWake) :
    wakeDone s = advanceX { s with pwr := .awake, seq := { s.seq with w := .off } } := by
  simp only [wakeDone, hx]

/-- A wake outside an EXECUTE ends the host operation WAKE (R204). -/
theorem wakeDone_host (hx : s.seq.x ≠ .xWake) :
    wakeDone s =
      if s.seq.op = .wake then endOperation { s with pwr := .awake, seq := { s.seq with w := .off } }
      else { s with pwr := .awake, seq := { s.seq with w := .off } } := by
  cases hx' : s.seq.x
  case xWake => exact absurd hx' hx
  all_goals simp only [wakeDone, hx']

/-- The idle write at `X_EXIT` clears the schedule, and EXECUTE returns (R230). -/
theorem idleDone_execute (hx : s.seq.x = .xExit) :
    idleDone s = leaveExecute { s with pwr := .idle, idlep := false, seq := { s.seq with w := .off } } := by
  simp only [idleDone, hx]

/-- The idle write outside an EXECUTE ends the host operation IDLE (R208). -/
theorem idleDone_host (hx : s.seq.x ≠ .xExit) :
    idleDone s =
      .moved (if s.seq.op = .idle then endOperation { s with pwr := .idle, seq := { s.seq with w := .off } }
        else { s with pwr := .idle, seq := { s.seq with w := .off } }) := by
  cases hx' : s.seq.x
  case xExit => exact absurd hx' hx
  all_goals simp only [idleDone, hx']

end Sys2Proof.Machine
end

section
/-! The machine's invariant (10_state.md R28 to R30, R42): what a state of the invariant can be, that every sequencer step
and every request keeps it, and that none of them meets a sequencer value outside the table. -/

namespace Sys2Proof.Machine

/-! ### What a state of the invariant can be -/

/-- Where an EXECUTE runs: the host's own, or one that a library step issues, always wrapped (R28, R240). -/
inductive InExecute (s : State) : Prop
  | host (hop : s.seq.op = .execute) (hl : s.seq.l = .off)
  | first (hop : libraryOp s.seq.op = true) (hl : s.seq.l = .lExec) (hwrap : s.wrap = true)
  | later (hop : s.seq.op = .sha256) (hl : s.seq.l = .lUpdate ∨ s.seq.l = .lEnd) (hwrap : s.wrap = true)

/-- The stages of the machine: between operations, in a power operation of the host, in an EXECUTE, or at a library step
that stands alone. -/
inductive Stage (s : State) : Prop
  | quiet (hb : s.busy = false) (hseq : s.seq = Seq.zero) (hi : s.idlep = false)
  | wake (hb : s.busy = true) (hop : s.seq.op = .wake) (hl : s.seq.l = .off) (hx : s.seq.x = .off)
      (hw : inWake s.seq.w = true) (hi : s.idlep = false) (he : s.err = .none)
  | sleep (hb : s.busy = true) (hop : s.seq.op = .sleep) (hl : s.seq.l = .off) (hx : s.seq.x = .off)
      (hw : s.seq.w = .sWrite) (hi : s.idlep = false) (he : s.err = .none)
  | idle (hb : s.busy = true) (hop : s.seq.op = .idle) (hl : s.seq.l = .off) (hx : s.seq.x = .off)
      (hw : s.seq.w = .iWrite) (hi : s.idlep = false) (he : s.err = .none)
  | execute (hb : s.busy = true) (hin : InExecute s) (hn : exchangeNested s = true)
  | prepare (hb : s.busy = true) (hop : s.seq.op = .sha256) (hl : s.seq.l = .lPrep) (hx : s.seq.x = .off)
      (hw : s.seq.w = .off) (hi : s.idlep = false) (he : s.err = .none)
  | format (hb : s.busy = true) (hop : libraryOp s.seq.op = true) (hl : s.seq.l = .lFormat) (hx : s.seq.x = .off)
      (hw : s.seq.w = .off) (hi : s.idlep = false) (he : s.err = .none) (hr : 4 ≤ s.rxbuf.length)
  | librarySleep (hb : s.busy = true) (hop : libraryOp s.seq.op = true) (hl : s.seq.l = .lSleep) (hx : s.seq.x = .off)
      (hw : s.seq.w = .sWrite) (hi : s.idlep = false)

theorem seqNested_of_libraryOp {s : State} (hb : s.busy = true) (h : libraryOp s.seq.op = true) :
    seqNested s = libraryNested s := by
  cases hop : s.seq.op <;> simp_all [seqNested, libraryOp]

theorem stage_of_libraryNested {s : State} (hb : s.busy = true) (hop : libraryOp s.seq.op = true)
    (h : libraryNested s = true) : Stage s := by
  cases hl : s.seq.l <;> simp only [libraryNested, hl, Bool.and_eq_true, beq_iff_eq, Bool.not_eq_true',
    decide_eq_true_eq, Bool.false_eq_true] at h
  case lPrep =>
    obtain ⟨⟨⟨⟨hop', hx⟩, hw⟩, hi⟩, he⟩ := h
    exact .prepare hb hop' hl hx hw hi he
  case lExec => exact .execute hb (.first hop hl h.1) h.2
  case lUpdate => exact .execute hb (.later h.1.1 (.inl hl) h.1.2) h.2
  case lEnd => exact .execute hb (.later h.1.1 (.inr hl) h.1.2) h.2
  case lFormat =>
    obtain ⟨⟨⟨⟨hx, hw⟩, hi⟩, he⟩, hr⟩ := h
    exact .format hb hop hl hx hw hi he hr
  case lSleep =>
    obtain ⟨⟨hx, hw⟩, hi⟩ := h
    exact .librarySleep hb hop hl hx hw hi

theorem stage_of_seqNested {s : State} (h : seqNested s = true) : Stage s := by
  cases hb : s.busy
  · simp only [seqNested, hb, Bool.false_eq_true, if_false, Bool.and_eq_true, beq_iff_eq, Bool.not_eq_true'] at h
    exact .quiet hb h.1 h.2
  · by_cases hlib : libraryOp s.seq.op = true
    · rw [seqNested_of_libraryOp hb hlib] at h
      exact stage_of_libraryNested hb hlib h
    · cases hop : s.seq.op <;> simp [seqNested, libraryOp, hb, hop, and_assoc] at h hlib
      case wake => obtain ⟨hl, hx, hw, hi, he⟩ := h; exact .wake hb hop hl hx hw hi he
      case sleep => obtain ⟨hl, hx, hw, hi, he⟩ := h; exact .sleep hb hop hl hx hw hi he
      case idle => obtain ⟨hl, hx, hw, hi, he⟩ := h; exact .idle hb hop hl hx hw hi he
      case execute => exact .execute hb (.host hop h.1) h.2

theorem seqNested_of_stage {s : State} (h : Stage s) : seqNested s = true := by
  cases h with
  | quiet hb hseq hi => simp [seqNested, hb, hseq, hi]
  | wake hb hop hl hx hw hi he => simp [seqNested, *]
  | sleep hb hop hl hx hw hi he => simp [seqNested, *]
  | idle hb hop hl hx hw hi he => simp [seqNested, *]
  | execute hb hin hn =>
    cases hin with
    | host hop hl => simp [seqNested, *]
    | first hop hl hwrap => simp [seqNested_of_libraryOp hb hop, libraryNested, *]
    | later hop hl hwrap => rcases hl with hl | hl <;> simp [seqNested, libraryNested, *]
  | prepare hb hop hl hx hw hi he => simp [seqNested, libraryNested, *]
  | format hb hop hl hx hw hi he hr => simp [seqNested_of_libraryOp hb hop, libraryNested, *]
  | librarySleep hb hop hl hx hw hi => simp [seqNested_of_libraryOp hb hop, libraryNested, *]

/-- The invariant: the buffer bounds and one of the stages. -/
theorem stateInv_iff (s : State) : StateInv s = true ↔ Memory.wf s = true ∧ Stage s := by
  rw [StateInv, Bool.and_eq_true]
  exact and_congr_right fun _ => ⟨stage_of_seqNested, seqNested_of_stage⟩

/-! ### Inside an EXECUTE -/

theorem InExecute.libraryOp_of_l {s : State} (h : InExecute s) (hl : s.seq.l ≠ .off) : libraryOp s.seq.op = true := by
  cases h with
  | host _ hl' => exact absurd hl' hl
  | first hop => exact hop
  | later hop => rw [hop]; rfl

theorem InExecute.of_eq {s t : State} (h : InExecute s) (hop : t.seq.op = s.seq.op) (hl : t.seq.l = s.seq.l)
    (hw : t.wrap = s.wrap) : InExecute t := by
  cases h with
  | host hop' hl' => exact .host (hop.trans hop') (hl.trans hl')
  | first hop' hl' hw' => exact .first (by rwa [hop]) (hl.trans hl') (hw.trans hw')
  | later hop' hl' hw' => exact .later (hop.trans hop') (by rwa [hl]) (hw.trans hw')

/-- The steps of the body of an EXECUTE, `X_ENCODE` to `X_VERIFY` (R223 to R229). -/
def inBody : XStep → Bool
  | .off => false
  | .xWake => false
  | .xArm => false
  | .xExit => false
  | _ => true

/-- In the body no error is recorded, the Idle is scheduled exactly in a wrapped exchange, and nothing is nested. -/
theorem body_of_exchangeNested {s : State} (hx : inBody s.seq.x = true) (hn : exchangeNested s = true) :
    s.err = .none ∧ s.idlep = s.wrap ∧ s.seq.w = .off := by
  cases hx' : s.seq.x <;> simp_all [inBody, exchangeNested]

/-- What every step of an EXECUTE has and keeps. -/
structure Executing (s : State) : Prop where
  wf : Memory.wf s = true
  busy : s.busy = true
  place : InExecute s

/-- It speaks of the buffers, `BUSY`, `WRAP` and the two outer fields of `SEQ` only. -/
theorem Executing.of_eq {s t : State} (h : Executing s) (hb : t.busy = s.busy := by simp)
    (hop : t.seq.op = s.seq.op := by simp) (hl : t.seq.l = s.seq.l := by simp) (hw : t.wrap = s.wrap := by simp)
    (hd : t.data = s.data := by simp) (hn : t.dlen = s.dlen := by simp) (hx : t.txbuf = s.txbuf := by simp) :
    Executing t :=
  ⟨(Memory.wf_congr hd hn hx).trans h.wf, hb.trans h.busy, h.place.of_eq hop hl hw⟩

theorem Executing.encodeFrame {s : State} (h : Executing s) : Executing (encodeFrame s) :=
  ⟨encodeFrame_wf h.wf, h.busy, h.place.of_eq rfl rfl rfl⟩

theorem Executing.inv {s : State} (h : Executing s) (hn : exchangeNested s = true) : StateInv s = true :=
  (stateInv_iff s).2 ⟨h.wf, .execute h.busy h.place hn⟩

/-! ### Sound results: the invariant again, and no value outside the table -/

/-- A sequencer step's result is sound: the invariant holds of the next state, and a fault is one of the spec's own two. -/
def SeqResult.Sound : SeqResult → Prop
  | .moved t => StateInv t = true
  | .stay => True
  | .fault f => f ≠ .sequencerOutsideTable

/-- An outcome is sound in the same sense. -/
def SoundOutcome : Host.Outcome State Fault Refusal → Prop
  | .next t => StateInv t = true
  | .fault f => f ≠ .sequencerOutsideTable
  | .refused _ => True

@[simp] theorem sound_moved (t : State) : (SeqResult.moved t).Sound ↔ StateInv t = true := Iff.rfl
@[simp] theorem sound_stay : SeqResult.stay.Sound := trivial
@[simp] theorem sound_fault (f : Fault) : (SeqResult.fault f).Sound ↔ f ≠ .sequencerOutsideTable := Iff.rfl
@[simp] theorem soundOutcome_next (t : State) : SoundOutcome (.next t) ↔ StateInv t = true := Iff.rfl
@[simp] theorem soundOutcome_fault (f : Fault) : SoundOutcome (.fault f) ↔ f ≠ .sequencerOutsideTable := Iff.rfl
@[simp] theorem soundOutcome_refused (r : Refusal) : SoundOutcome (.refused r) := trivial

theorem setError_err_ne_none (e : OpError) (s : State) : (setError e s).err ≠ .none := by
  cases e <;> simp [setError]

theorem endOperation_inv {s : State} (hw : Memory.wf s = true) (hi : s.idlep = false) :
    StateInv (endOperation s) = true :=
  (stateInv_iff _).2 ⟨by simpa using hw, .quiet (by simp) (by simp) (by simpa using hi)⟩

theorem deliver_inv {s : State} (o : OpOutcome) (hw : Memory.wf s = true) (hi : s.idlep = false) :
    StateInv (deliver o s) = true :=
  (stateInv_iff _).2 ⟨by simpa using hw, .quiet (by simp) (by simp) (by simpa using hi)⟩

theorem enterExit_inv {s : State} (h : Executing s) (hi : s.idlep = s.wrap)
    (hr : s.err ≠ .none ∨ 4 ≤ s.rxbuf.length) : StateInv (enterExit s) = true :=
  (h.of_eq (t := enterExit s)).inv (by rcases hr with he | hr <;> simp [exchangeNested, *])

theorem enterFormat_inv {s : State} (hw : Memory.wf s = true) (hb : s.busy = true) (hop : libraryOp s.seq.op = true)
    (hi : s.idlep = false) (he : s.err = .none) (hr : 4 ≤ s.rxbuf.length) : StateInv (enterFormat s) = true :=
  (stateInv_iff _).2 ⟨(Memory.wf_congr (by simp) (by simp) (by simp)).trans hw,
    .format (by simpa) (by simpa) (by simp) (by simp) (by simp) (by simpa) (by simpa) (by simpa)⟩

theorem enterSleep_inv {s : State} (hw : Memory.wf s = true) (hb : s.busy = true) (hop : libraryOp s.seq.op = true)
    (hi : s.idlep = false) : StateInv (enterSleep s) = true :=
  (stateInv_iff _).2 ⟨(Memory.wf_congr (by simp) (by simp) (by simp)).trans hw,
    .librarySleep (by simpa) (by simpa) (by simp) (by simp) (by simp) (by simpa)⟩

/-- An EXECUTE of the host or of a library operation starts in the invariant (R220). -/
theorem beginExecute_inv {s : State} (opc p1 p2a p2b : Byte) {data : Bytes} (w : Bool) (hd : data.length ≤ 248)
    (hb : s.busy = true) (he : s.err = .none) (hin : InExecute (beginExecute opc p1 p2a p2b data w s)) :
    StateInv (beginExecute opc p1 p2a p2b data w s) = true :=
  Executing.inv ⟨beginExecute_wf _ _ _ _ _ _ _ hd, by simpa using hb, hin⟩ (by
    cases w <;> simp [exchangeNested, inWake, he])

theorem beginLibExecute_inv {s : State} {l : LStep} (opc p1 p2a p2b : Byte) {data : Bytes} (hd : data.length ≤ 248)
    (hb : s.busy = true) (he : s.err = .none)
    (hl : libraryOp s.seq.op = true ∧ l = .lExec ∨ s.seq.op = .sha256 ∧ (l = .lUpdate ∨ l = .lEnd)) :
    StateInv (beginLibExecute l opc p1 p2a p2b data s) = true := by
  refine Executing.inv ⟨beginLibExecute_wf _ _ _ _ _ _ _ hd, by simpa using hb, ?_⟩ (by simp [exchangeNested, inWake, he])
  rcases hl with ⟨hop, hl⟩ | ⟨hop, hl⟩
  · exact .first (by simpa using hop) (by simpa using hl) (by simp)
  · exact .later (by simpa using hop) (by simpa using hl) (by simp)

theorem enterUpdate_inv {s : State} (hb : s.busy = true) (he : s.err = .none) (hop : s.seq.op = .sha256) :
    StateInv (enterUpdate s) = true := by
  unfold enterUpdate
  split
  · exact beginLibExecute_inv _ _ _ _ (hashBlock_length_le _ _) hb he (.inr ⟨hop, .inl rfl⟩)
  · exact beginLibExecute_inv _ _ _ _ (by rw [hashTail_length]; omega) hb he (.inr ⟨hop, .inr rfl⟩)

/-! ### Leaving an EXECUTE and raising an error -/

/-- After a successful EXECUTE of a library operation (R241, R247, R256). -/
theorem libNext_sound {s : State} (h : Executing s) (hl : s.seq.l ≠ .off) (hi : s.idlep = false) (he : s.err = .none)
    (hr : 4 ≤ s.rxbuf.length) : (libNext s).Sound := by
  have hformat : StateInv (enterFormat s) = true :=
    enterFormat_inv h.wf h.busy (h.place.libraryOp_of_l hl) hi he hr
  cases h.place with
  | host _ hl' => exact absurd hl' hl
  | first hop hl' =>
    cases hop' : s.seq.op <;> simp [libraryOp, hop'] at hop
    case idread => simpa [libNext, hop', hl'] using hformat
    case selftest => simpa [libNext, hop', hl'] using hformat
    case sha256 => simpa [libNext, hop', hl'] using enterUpdate_inv h.busy he hop'
  | later hop hl' =>
    rcases hl' with hl' | hl'
    · simpa [libNext, hop, hl'] using enterUpdate_inv (s := { s with blk := s.blk + 1 }) h.busy he hop
    · simpa [libNext, hop, hl'] using hformat

theorem leaveExecute_sound {s : State} (h : Executing s) (hi : s.idlep = false)
    (hr : s.err ≠ .none ∨ 4 ≤ s.rxbuf.length) : (leaveExecute s).Sound := by
  have hq : Executing { s with seq := ⟨s.seq.op, s.seq.l, .off, .off⟩ } := h.of_eq
  rcases leaveExecute_cases s with ⟨-, e⟩ | ⟨hl, he, e⟩ | ⟨hl, -, -, e⟩ | ⟨-, -, -, e⟩ <;> rw [e]
  · exact endOperation_inv hq.wf hi
  · exact libNext_sound hq hl hi he (hr.resolve_left (not_not_intro he))
  · exact enterSleep_inv hq.wf hq.busy (hq.place.libraryOp_of_l hl) hi
  · exact endOperation_inv hq.wf hi

/-- Raising an error outside an EXECUTE ends the operation (R290 (a)). -/
theorem raise_outside_sound {s : State} (e : OpError) (hx : s.seq.x = .off) (hw : Memory.wf s = true)
    (hi : s.idlep = false) : (raise e s).Sound := by
  simpa [raise, hx] using endOperation_inv (s := setError e s) (by simpa) (by simpa)

/-- Raising an error in the wake of an EXECUTE returns from it at once (R290 (b)). -/
theorem raise_wake_sound {s : State} (e : OpError) (hx : s.seq.x = .xWake) (h : Executing s) (hi : s.idlep = false) :
    (raise e s).Sound := by
  simpa [raise, hx] using
    leaveExecute_sound (s := setError e s) h.of_eq (by simpa) (.inl (setError_err_ne_none e s))

/-- Raising an error in the body of an EXECUTE goes to `X_EXIT` (R290 (c)). -/
theorem raise_body_sound {s : State} (e : OpError) (hx : inBody s.seq.x = true) (h : Executing s)
    (hi : s.idlep = s.wrap) : (raise e s).Sound := by
  have hexit : StateInv (enterExit (setError e s)) = true :=
    enterExit_inv h.of_eq (by simpa) (.inl (setError_err_ne_none e s))
  rcases raise_cases e s with ⟨h0, -⟩ | ⟨h1, -⟩ | ⟨-, -, er⟩
  · simp [h0, inBody] at hx
  · simp [h1, inBody] at hx
  · rw [er]; exact hexit

end Sys2Proof.Machine
end

section
/-! Every sequencer step keeps the invariant and meets no value outside the table: one lemma for each step, then the
sequencer. -/

namespace Sys2Proof.Machine

/-! ### A wake, of the host or of an EXECUTE -/

/-- At one of the four steps of a wake: of the host operation WAKE, or nested in an EXECUTE (R200, R221). -/
structure Waking (s : State) : Prop where
  step : inWake s.seq.w = true
  idlep : s.idlep = false
  err : s.err = .none
  place : (Memory.wf s = true ∧ s.busy = true ∧ s.seq.op = .wake ∧ s.seq.l = .off ∧ s.seq.x = .off) ∨
    (Executing s ∧ s.seq.x = .xWake ∧ s.wrap = true)

theorem Waking.inv {s : State} (h : Waking s) : StateInv s = true := by
  rcases h.place with ⟨hwf, hb, hop, hl, hx⟩ | ⟨hin, hx, hwrap⟩
  · exact (stateInv_iff s).2 ⟨hwf, .wake hb hop hl hx h.step h.idlep h.err⟩
  · exact hin.inv (by simp [exchangeNested, hx, hwrap, h.step, h.idlep, h.err])

theorem Waking.of_eq {s t : State} (h : Waking s) (hstep : inWake t.seq.w = true) (hi : t.idlep = s.idlep := by simp)
    (he : t.err = s.err := by simp) (hb : t.busy = s.busy := by simp) (hop : t.seq.op = s.seq.op := by simp)
    (hl : t.seq.l = s.seq.l := by simp) (hx : t.seq.x = s.seq.x := by simp) (hw : t.wrap = s.wrap := by simp)
    (hd : t.data = s.data := by simp) (hn : t.dlen = s.dlen := by simp) (htx : t.txbuf = s.txbuf := by simp) :
    Waking t := by
  refine ⟨hstep, hi.trans h.idlep, he.trans h.err, ?_⟩
  rw [Memory.wf_congr hd hn htx, hb, hop, hl, hx, hw]
  exact h.place.imp_right fun hin => ⟨hin.1.of_eq hb hop hl hw hd hn htx, hin.2⟩

/-- An error in a wake ends WAKE or the EXECUTE (R290 (a), (b)). -/
theorem Waking.raise_sound {s : State} (h : Waking s) (e : OpError) : (raise e s).Sound := by
  rcases h.place with ⟨hwf, -, -, -, hx⟩ | ⟨hin, hx, -⟩
  · exact raise_outside_sound e hx hwf h.idlep
  · exact raise_wake_sound e hx hin h.idlep

/-- A wake that went through ends WAKE, or goes on to `X_ARM` (R204, R221). -/
theorem Waking.wakeDone_inv {s : State} (h : Waking s) : StateInv (wakeDone s) = true := by
  rcases h.place with ⟨hwf, -, hop, -, hx⟩ | ⟨hin, hx, -⟩
  · rw [wakeDone_host (by simp [hx]), if_pos hop]
    exact endOperation_inv hwf h.idlep
  · rw [wakeDone_execute hx]
    exact (hin.of_eq (t := advanceX _)).inv (by simp [exchangeNested, xNext, hx, h.idlep, h.err])

theorem Waking.wStep_sound {s : State} (h : Waking s) : (wStep s).Sound := by
  cases hw : s.seq.w <;> simp only [wStep, hw]
  case wWrite =>
    cases ha : s.wrAns with
    | nil => simp [wWriteStep, busWrite, ha]
    | cons a ws =>
      rw [wWriteStep_answered ha]
      exact (h.of_eq (t := advanceW _) (by simp [inWake, wNext, hw])).inv
  case wSettle => exact (h.of_eq (t := advanceW (settleDelay s)) (by simp [inWake, wNext, hw])).inv
  case wRead =>
    cases ha : s.rdAns with
    | nil => simp [wReadStep, busRead, ha]
    | cons a rs =>
      cases a with
      | bytes b =>
        rw [wReadStep_bytes ha]
        exact (h.of_eq (t := advanceW _) (by simp [inWake, wNext, hw])).inv
      | err e =>
        rw [wReadStep_err ha]
        refine Waking.raise_sound ?_ _
        exact h.of_eq h.step
  case wVerify =>
    obtain ⟨c, b, st, hv⟩ := verifyWrites_eq s
    have ht : Waking (verifyWrites s) := by rw [hv]; exact h.of_eq h.step
    have hw' : (verifyWrites s).seq.w = .wVerify := by simpa using hw
    simp only [wVerifyStep, verifyStep]
    by_cases hr : ∃ p, verifyResult s.par.statusMap s.rxbuf = .ok p (some .afterWakeBeforeFirstCommand)
    · obtain ⟨p, hr⟩ := hr
      rw [hr, finishVerify_afterWake hw']
      exact ht.wakeDone_inv
    · rw [finishVerify_wakeFailed hw' (not_exists.1 hr)]
      exact ht.raise_sound _
  all_goals exact absurd h.step (by simp [inWake, hw])

/-! ### The steps inside an EXECUTE -/

/-- The steps of the body of an EXECUTE (R223 to R229). -/
theorem xStep_body_sound {s : State} (h : Executing s) (hb : inBody s.seq.x = true) (hw : s.seq.w = .off)
    (hi : s.idlep = s.wrap) (he : s.err = .none) : (xStep s).Sound := by
  have hraise : ∀ (e : OpError) (t : State), t.seq = s.seq → Executing t → t.idlep = t.wrap → (raise e t).Sound :=
    fun e t hq ht hi => raise_body_sound e (by rwa [hq]) ht hi
  cases hx : s.seq.x <;> simp [inBody, hx] at hb
  case xEncode =>
    rw [xStep, hx]
    exact (h.encodeFrame.of_eq (t := advanceX (encodeFrame s))).inv (by simp [exchangeNested, frameReady, xNext, *])
  case xWrcmd =>
    rw [xStep, hx]
    cases ha : s.wrAns with
    | nil => simp [xWrcmdStep, busWrite, ha]
    | cons a ws =>
      cases a with
      | ok =>
        rw [xWrcmdStep_ok ha]
        exact (h.of_eq (t := advanceX _)).inv (by simp [exchangeNested, xNext, *])
      | err e =>
        rw [xWrcmdStep_err ha]
        exact hraise _ _ rfl h.of_eq hi
  case xSettle =>
    rw [xStep, hx]
    exact (h.of_eq (t := advanceX (settleDelay s))).inv (by simp [exchangeNested, xNext, *])
  case xTrig =>
    rw [xStep, hx]
    cases ha : s.wrAns with
    | nil => simp [xTrigStep, busWrite, ha]
    | cons a ws =>
      cases a with
      | ok =>
        rw [xTrigStep_ok ha]
        exact (h.of_eq (t := advanceX _)).inv (by simp [exchangeNested, xNext, *])
      | err e =>
        rw [xTrigStep_err ha]
        exact hraise _ _ rfl h.of_eq hi
  case xRdlen =>
    rw [xStep, hx]
    cases ha : s.rdAns with
    | nil => simp [xRdlenStep, busRead, ha]
    | cons a rs =>
      rcases a with (_ | ⟨n, b⟩) | e
      · simp [xRdlenStep_empty ha]
      · rw [xRdlenStep_bytes ha]
        exact (h.of_eq (t := advanceX _)).inv (by simp [exchangeNested, xNext, *])
      · rw [xRdlenStep_err ha]
        exact hraise _ _ rfl h.of_eq hi
  case xRdfrm =>
    rw [xStep, hx]
    cases ha : s.rdAns with
    | nil => simp [xRdfrmStep, busRead, ha]
    | cons a rs =>
      cases a with
      | bytes b =>
        rw [xRdfrmStep_bytes ha]
        exact (h.of_eq (t := advanceX _)).inv (by simp [exchangeNested, xNext, *])
      | err e =>
        rw [xRdfrmStep_err ha]
        exact hraise _ _ rfl h.of_eq hi
  case xVerify =>
    obtain ⟨c, b, st, hv⟩ := verifyWrites_eq s
    rw [xStep, hx]
    have ht : Executing (verifyWrites s) := by rw [hv]; exact h.of_eq
    have hi' : (verifyWrites s).idlep = (verifyWrites s).wrap := by rw [hv]; exact hi
    simp only [xVerifyStep, verifyStep]
    cases hr : verifyResult s.par.statusMap s.rxbuf with
    | ok p st' =>
      rw [finishVerify_execute_ok (by simp [hw]) (by simpa using hx)]
      exact enterExit_inv ht hi' (.inr (by simpa using length_of_verifyResult_ok hr))
    | error e =>
      rw [finishVerify_execute_error (by simp [hw]) (by simpa using hx)]
      exact hraise _ _ (by simp) ht hi'

/-- The exit of an EXECUTE, with the idle write inside it or without (R230). -/
theorem wStep_exit_sound {s : State} (h : Executing s) (hx : s.seq.x = .xExit)
    (hw : s.seq.w = if s.idlep then .iWrite else .off) (hr : s.err ≠ .none ∨ 4 ≤ s.rxbuf.length) :
    (wStep s).Sound := by
  cases hi : s.idlep <;> simp only [hi, Bool.false_eq_true, if_true, if_false] at hw
  · simp only [wStep, hw, xStep, hx, xExitStep, hi, Bool.false_eq_true, if_false]
    exact leaveExecute_sound h hi hr
  · rw [wStep, hw]
    cases ha : s.wrAns with
    | nil => simp [iWriteStep, busWrite, ha]
    | cons a ws =>
      rw [iWriteStep_answered ha, idleDone_execute (by exact hx)]
      exact leaveExecute_sound h.of_eq rfl hr

/-- Every step of an EXECUTE. -/
theorem wStep_execute_sound {s : State} (h : Executing s) (hn : exchangeNested s = true) : (wStep s).Sound := by
  by_cases hb : inBody s.seq.x = true
  · obtain ⟨he, hi, hw⟩ := body_of_exchangeNested hb hn
    rw [wStep, hw]
    exact xStep_body_sound h hb hw hi he
  · cases hx : s.seq.x <;> simp [inBody, exchangeNested, hx, and_assoc] at hb hn
    case xWake =>
      obtain ⟨he, hi, hw⟩ := hn
      cases hwrap : s.wrap <;> simp [hwrap] at hw
      · simp only [wStep, hw, xStep, hx, xWakeStep, hwrap, Bool.false_eq_true, if_false]
        exact (h.of_eq (t := advanceX s)).inv (by simp [exchangeNested, xNext, *])
      · exact Waking.wStep_sound ⟨hw, hi, he, .inr ⟨h, hx, hwrap⟩⟩
    case xArm =>
      obtain ⟨he, hi, hw⟩ := hn
      simp only [wStep, hw, xStep, hx, xArmStep]
      by_cases hwrap : s.wrap = true
      · rw [if_pos hwrap]
        exact (h.of_eq (t := advanceX { s with idlep := true })).inv (by simp [exchangeNested, xNext, *])
      · rw [if_neg hwrap]
        exact (h.of_eq (t := advanceX s)).inv (by simp [exchangeNested, xNext, *])
    case xExit =>
      obtain ⟨-, hw, hr⟩ := hn
      exact wStep_exit_sound h hx hw hr

end Sys2Proof.Machine
end

section
/-! The invariant under the sequencer, an operation's run and a step of the machine. -/

namespace Sys2Proof.Machine

/-! ### The stages outside an EXECUTE -/

/-- The sleep write: of the host operation SLEEP, or at `L_SLEEP` (R206, R244). -/
theorem sWriteStep_sound {s : State} (hw : Memory.wf s = true) (hi : s.idlep = false)
    (hend : s.seq.l = .lSleep ∨ s.seq.op = .sleep) : (sWriteStep s).Sound := by
  cases ha : s.wrAns with
  | nil => simp [sWriteStep, busWrite, ha]
  | cons a ws =>
    simp only [sWriteStep_answered ha, sleepDone, hend, if_true]
    exact endOperation_inv hw hi

/-- The idle write of the host operation IDLE (R208). -/
theorem iWriteStep_host_sound {s : State} (hw : Memory.wf s = true) (hi : s.idlep = false) (hop : s.seq.op = .idle)
    (hx : s.seq.x = .off) : (iWriteStep s).Sound := by
  cases ha : s.wrAns with
  | nil => simp [iWriteStep, busWrite, ha]
  | cons a ws =>
    rw [iWriteStep_answered ha, idleDone_host (by simp [hx]), if_pos hop]
    exact endOperation_inv hw hi

/-- `L_PREP`: the Start exchange, or DecodeError (R256, R262). -/
theorem lPrepStep_sound {s : State} (hwf : Memory.wf s = true) (hb : s.busy = true) (hop : s.seq.op = .sha256)
    (hx : s.seq.x = .off) (hi : s.idlep = false) (he : s.err = .none) : (lPrepStep s).Sound := by
  cases hm : messageBytes s with
  | none =>
    rw [lPrepStep_none hm]
    exact raise_outside_sound _ hx hwf hi
  | some m =>
    rw [lPrepStep_some hm]
    exact beginLibExecute_inv (s := { s with msg := m, blk := 0 }) _ _ _ _ (by simp) hb he
      (.inl ⟨by simp [hop, libraryOp], rfl⟩)

/-- `L_FORMAT`: the sleep, or the fault of a short payload (R242, R244). -/
theorem lFormatStep_sound {s : State} (hwf : Memory.wf s = true) (hb : s.busy = true)
    (hop : libraryOp s.seq.op = true) (hi : s.idlep = false) : (lFormatStep s).Sound := by
  cases ho : outputText s with
  | ok text =>
    rw [lFormatStep_ok ho]
    exact enterSleep_inv (s := { s with text := text }) hwf hb hop hi
  | error f =>
    rw [lFormatStep_error ho]
    simp [outputText_error hop ho]

/-! ### The sequencer -/

/-- A step of an operation in progress, stage by stage. -/
theorem wStep_sound {s : State} (h : StateInv s = true) (hbusy : s.busy = true) : (wStep s).Sound := by
  obtain ⟨hwf, hstage⟩ := (stateInv_iff s).1 h
  cases hstage with
  | quiet hb => simp [hb] at hbusy
  | wake hb hop hl hx hw hi he => exact Waking.wStep_sound ⟨hw, hi, he, .inl ⟨hwf, hb, hop, hl, hx⟩⟩
  | sleep hb hop hl hx hw hi he => simpa only [wStep, hw] using sWriteStep_sound hwf hi (.inr hop)
  | idle hb hop hl hx hw hi he => simpa only [wStep, hw] using iWriteStep_host_sound hwf hi hop hx
  | execute hb hin hn => exact wStep_execute_sound ⟨hwf, hb, hin⟩ hn
  | prepare hb hop hl hx hw hi he =>
    simpa only [wStep, hw, xStep, hx, lStep, hl] using lPrepStep_sound hwf hb hop hx hi he
  | format hb hop hl hx hw hi he hr =>
    simpa only [wStep, hw, xStep, hx, lStep, hl] using lFormatStep_sound hwf hb hop hi
  | librarySleep hb hop hl hx hw hi => simpa only [wStep, hw] using sWriteStep_sound hwf hi (.inl hl)

theorem seqStep_sound {s : State} (h : StateInv s = true) : (seqStep s).Sound := by
  cases hb : s.busy
  · simp [seqStep_not_busy hb]
  · rw [seqStep_busy hb]
    exact wStep_sound h hb

theorem runSeq_sound (n : Nat) {s : State} (h : StateInv s = true) : SoundOutcome (runSeq n s) := by
  induction n generalizing s with
  | zero => exact h
  | succ n ih =>
    have hs := seqStep_sound h
    cases hq : seqStep s with
    | moved t => rw [hq] at hs; rw [runSeq_moved hq]; exact ih hs
    | stay => rw [runSeq_stay hq]; exact h
    | fault f => rw [hq] at hs; rw [runSeq_fault hq]; exact hs

theorem runOperation_sound {s : State} (h : StateInv s = true) : SoundOutcome (runOperation s) := by
  unfold runOperation
  split
  · exact runSeq_sound _ h
  · exact h

theorem ownStep_sound {s : State} (h : StateInv s = true) : SoundOutcome (ownStep s) := by
  have hs := seqStep_sound h
  rcases ownStep_cases s with ⟨t, hq, e⟩ | ⟨f, hq, e⟩ | ⟨-, e⟩ <;> rw [e]
  · rwa [hq] at hs
  · rwa [hq] at hs
  · exact h

end Sys2Proof.Machine
end

section
/-! The host's requests (30_encoding.md R126, R130): the request channel yields host operations and reserved codes only, and
what the meaning of each can be, said once. -/

namespace Sys2Proof

theorem eq_ok_of_plainRequest {flags : BitVec 4} {r : Except Reject Instr} {i : Instr}
    (h : plainRequest flags r = .ok i) : r = .ok i := by
  unfold plainRequest at h
  split at h
  · exact h
  · cases h

theorem channelOf_of_noOperands {ops : Bytes} {i j : Instr} (hj : channelOf j = .hostRequest)
    (h : noOperands ops j = .ok i) : channelOf i = .hostRequest := by
  cases ops <;> cases h
  exact hj

theorem channelOf_of_commandOperands {ops : Bytes} {k : Byte → Byte → Byte → Byte → Bytes → Instr} {i : Instr}
    (hk : ∀ opc p1 p2a p2b data, channelOf (k opc p1 p2a p2b data) = .hostRequest)
    (h : commandOperands ops k = .ok i) : channelOf i = .hostRequest := by
  unfold commandOperands at h
  split at h
  · split at h <;> cases h
    exact hk _ _ _ _ _
  · cases h

theorem channelOf_of_oneOperand {ops : Bytes} {k : Byte → Instr} {i : Instr}
    (hk : ∀ b, channelOf (k b) = .hostRequest) (h : oneOperand ops k = .ok i) : channelOf i = .hostRequest := by
  unfold oneOperand at h
  split at h <;> cases h
  exact hk _

/-- What the request channel decodes is a host operation or a reserved code. -/
theorem channelOf_of_decodeRequest {bytes : Bytes} {i : Instr} (h : decodeRequest bytes = .ok i) :
    channelOf i = .hostRequest := by
  cases bytes with
  | nil => cases h
  | cons header ops =>
    simp only [decodeRequest] at h
    split at h
    · cases h; rfl
    · cases eq_ok_of_plainRequest h; rfl
    · have h := eq_ok_of_plainRequest h
      split at h <;> cases h
      rfl
    · exact channelOf_of_commandOperands (fun _ _ _ _ _ => rfl) (eq_ok_of_plainRequest h)
    · cases eq_ok_of_plainRequest h; rfl
    · exact channelOf_of_oneOperand (fun _ => rfl) (eq_ok_of_plainRequest h)
    · exact channelOf_of_noOperands rfl (eq_ok_of_plainRequest h)
    · exact channelOf_of_noOperands rfl (eq_ok_of_plainRequest h)
    · exact channelOf_of_noOperands rfl (eq_ok_of_plainRequest h)
    · split at h
      · exact channelOf_of_commandOperands (fun _ _ _ _ _ => rfl) h
      · cases h
    · exact channelOf_of_noOperands rfl (eq_ok_of_plainRequest h)
    · exact channelOf_of_noOperands rfl (eq_ok_of_plainRequest h)
    · split at h <;> cases h
      rfl
    all_goals cases h; rfl

end Sys2Proof

namespace Sys2Proof.Machine

theorem whenIdle_busy {s : State} (hb : s.busy = true) (k : Host.Outcome State Fault Refusal) :
    whenIdle s k = .refused .busy := if_pos hb

theorem whenIdle_not_busy {s : State} (hb : s.busy = false) (k : Host.Outcome State Fault Refusal) :
    whenIdle s k = k := by simp [whenIdle, hb]

/-- Every host operation and reserved code is refused while an operation is in progress (R34, R130). -/
theorem exec_refused_of_busy {i : Instr} {s : State} (hi : channelOf i = .hostRequest) (hb : s.busy = true) :
    ∃ r, exec i s = .refused r := by
  cases i
  case crc16 | crcchk | encode | verify | stdec | wake | sleep | idle | execute | idread | selftest | sha256 =>
    exact ⟨_, whenIdle_busy hb _⟩
  case reservedOp0 | reservedOpD | reservedOpE | reservedOpF => exact ⟨_, rfl⟩
  all_goals cases hi

/-- The next state of a unit operation (R144, R146, R160, R164, R180). -/
inductive UnitResult (s : State) : Instr → State → Prop
  | crc16 (bytes : Bytes) :
    UnitResult s (.crc16 bytes) (deliver (.ok (.bytes (crc16 bytes))) { accept .crc16 s with crc := crcReg bytes })
  | crcchk (buf : Bytes) :
    UnitResult s (.crcchk buf) (deliver (.ok (.bool (crcOk buf))) { accept .crcchk s with crc := crcReg (frameBody buf) })
  | encode (opc p1 p2a p2b : Byte) (data : Bytes) (hd : data.length ≤ 248) :
    UnitResult s (.encode opc p1 p2a p2b data)
      (deliver (.ok (.bytes (commandFrame opc p1 p2a p2b data)))
        (encodeFrame (loadOperands opc p1 p2a p2b data (accept .encode s))))
  | verify (buf : Bytes) :
    UnitResult s (.verify buf)
      (deliverVerified (verifyResult s.par.statusMap buf) (verifyWrites { accept .verify s with rxbuf := buf }))
  | stdec (b : Byte) :
    UnitResult s (.stdec b)
      (deliver (.ok (.status (stdec s.par.statusMap b)))
        { accept .stdec s with status := some (stdec s.par.statusMap b) })

/-- The state in which an operation that runs through the sequencer stands at its first step. -/
inductive FirstStep (s : State) : Instr → State → Prop
  | wake : FirstStep s .wake { accept .wake s with seq := ⟨.wake, .off, .off, .wWrite⟩ }
  | sleep : FirstStep s .sleep { accept .sleep s with seq := ⟨.sleep, .off, .off, .sWrite⟩ }
  | idle : FirstStep s .idle { accept .idle s with seq := ⟨.idle, .off, .off, .iWrite⟩ }
  | execute (w : Bool) (opc p1 p2a p2b : Byte) (data : Bytes) (hd : data.length ≤ 248) :
    FirstStep s (.execute w opc p1 p2a p2b data) (beginExecute opc p1 p2a p2b data w (accept .execute s))
  | idread :
    FirstStep s .idread (beginLibExecute .lExec s.par.opcRead Config.readP1 0#8 0#8 [] (accept .idread s))
  | selftest :
    FirstStep s .selftest (beginLibExecute .lExec s.par.opcSelftest Config.selftestP1 0#8 0#8 [] (accept .selftest s))
  | sha256 (h : Bool) (text : Bytes) :
    FirstStep s (.sha256 h text)
      { accept .sha256 s with seq := ⟨.sha256, .lPrep, .off, .off⟩, hashText := text, hashHex := h }

/-- VERIFY of the host ends in its one step (R164). -/
theorem responseStep_accept_verify (buf : Bytes) (s : State) :
    responseStep buf (accept .verify s) =
      .next (deliverVerified (verifyResult s.par.statusMap buf) (verifyWrites { accept .verify s with rxbuf := buf })) := by
  simp only [responseStep, verifyStep]
  rw [finishVerify_unit (by simp) (by simp)]
  rfl

/-- What a request can do: it is refused, or no operation was in progress and it is a unit operation that ends in this
step or an operation that runs from its first step. -/
theorem exec_request_cases {i : Instr} (hi : channelOf i = .hostRequest) (s : State) :
    (∃ r, exec i s = .refused r) ∨
      (s.busy = false ∧ ∃ t, UnitResult s i t ∧ exec i s = .next t) ∨
      (s.busy = false ∧ ∃ u, FirstStep s i u ∧ exec i s = runOperation u) := by
  cases hb : s.busy
  case true => exact .inl (exec_refused_of_busy hi hb)
  case false =>
    cases i
    case crc16 bytes => exact .inr (.inl ⟨rfl, _, .crc16 bytes, whenIdle_not_busy hb _⟩)
    case crcchk buf =>
      by_cases hl : 2 ≤ buf.length
      · exact .inr (.inl ⟨rfl, _, .crcchk buf, (whenIdle_not_busy hb _).trans (if_pos hl)⟩)
      · exact .inl ⟨_, (whenIdle_not_busy hb _).trans (if_neg hl)⟩
    case encode opc p1 p2a p2b data =>
      by_cases hd : data.length ≤ Config.maxData
      · exact .inr (.inl ⟨rfl, _, .encode _ _ _ _ _ hd, (whenIdle_not_busy hb _).trans (if_pos hd)⟩)
      · exact .inl ⟨_, (whenIdle_not_busy hb _).trans (if_neg hd)⟩
    case verify buf =>
      exact .inr (.inl ⟨rfl, _, .verify buf, (whenIdle_not_busy hb _).trans (responseStep_accept_verify buf s)⟩)
    case stdec b => exact .inr (.inl ⟨rfl, _, .stdec b, whenIdle_not_busy hb _⟩)
    case wake => exact .inr (.inr ⟨rfl, _, .wake, whenIdle_not_busy hb _⟩)
    case sleep => exact .inr (.inr ⟨rfl, _, .sleep, whenIdle_not_busy hb _⟩)
    case idle => exact .inr (.inr ⟨rfl, _, .idle, whenIdle_not_busy hb _⟩)
    case execute w opc p1 p2a p2b data =>
      by_cases hd : data.length ≤ Config.maxData
      · exact .inr (.inr ⟨rfl, _, .execute _ _ _ _ _ _ hd, (whenIdle_not_busy hb _).trans (if_pos hd)⟩)
      · exact .inl ⟨_, (whenIdle_not_busy hb _).trans (if_neg hd)⟩
    case idread => exact .inr (.inr ⟨rfl, _, .idread, whenIdle_not_busy hb _⟩)
    case selftest => exact .inr (.inr ⟨rfl, _, .selftest, whenIdle_not_busy hb _⟩)
    case sha256 h text => exact .inr (.inr ⟨rfl, _, .sha256 h text, whenIdle_not_busy hb _⟩)
    case reservedOp0 | reservedOpD | reservedOpE | reservedOpF => exact .inl ⟨_, rfl⟩
    all_goals cases hi

/-- A request as the next input: a refusal, or the meaning of a host operation or reserved code. -/
theorem serveRequest_cases (bytes : Bytes) (s : State) :
    (∃ i, decodeRequest bytes = .ok i ∧ channelOf i = .hostRequest ∧ serveRequest bytes s = exec i s) ∨
      (∃ why, decodeRequest bytes = .error why ∧
        serveRequest bytes s = if s.busy then .refused .busy else .refused (.badRequest why)) := by
  cases hd : decodeRequest bytes with
  | ok i => exact .inl ⟨i, rfl, channelOf_of_decodeRequest hd, by simp [serveRequest, decode, hd]⟩
  | error why => exact .inr ⟨why, rfl, by simp [serveRequest, decode, hd]⟩

/-- Settles O42: whatever the request decodes to, or not, it is refused. -/
theorem busyRefusesEveryRequest : Obligations.BusyRefusesEveryRequest := by
  intro s bytes rest hb hin
  have hstep : step s = serveRequest bytes { s with inputs := rest } := by simp [step, stepOnce, hin, serveInput]
  rw [hstep]
  rcases serveRequest_cases bytes { s with inputs := rest } with ⟨i, -, hi, e⟩ | ⟨why, -, e⟩ <;> rw [e]
  · exact exec_refused_of_busy hi hb
  · exact ⟨_, if_pos hb⟩

end Sys2Proof.Machine
end

section
/-! Reset, the invariant of the machine, and what follows from it (10_state.md). -/

namespace Sys2Proof.Machine

/-! ### The invariant under a step of the machine -/

theorem deliverVerified_inv (r : VerifyResult) {s : State} (hw : Memory.wf s = true) (hi : s.idlep = false) :
    StateInv (deliverVerified r s) = true := by
  cases r with
  | ok p st => exact deliver_inv _ hw hi
  | error e => exact deliver_inv _ (by simpa) (by simpa)

theorem UnitResult.inv {i : Instr} {s t : State} (h : UnitResult s i t) : StateInv t = true := by
  cases h with
  | crc16 bytes => exact deliver_inv _ (accept_wf .crc16 s) rfl
  | crcchk buf => exact deliver_inv _ (accept_wf .crcchk s) rfl
  | encode opc p1 p2a p2b data hd =>
    exact deliver_inv _ (encodeFrame_wf (loadOperands_wf _ _ _ _ _ hd (accept_wf .encode s))) rfl
  | verify buf =>
    obtain ⟨c, b, st, hv⟩ := verifyWrites_eq { accept .verify s with rxbuf := buf }
    rw [hv]
    exact deliverVerified_inv _ (accept_wf .verify s) rfl
  | stdec b => exact deliver_inv _ (accept_wf .stdec s) rfl

theorem FirstStep.inv {i : Instr} {s u : State} (h : FirstStep s i u) : StateInv u = true := by
  cases h with
  | wake => exact (stateInv_iff _).2 ⟨accept_wf .wake s, .wake rfl rfl rfl rfl rfl rfl rfl⟩
  | sleep => exact (stateInv_iff _).2 ⟨accept_wf .sleep s, .sleep rfl rfl rfl rfl rfl rfl rfl⟩
  | idle => exact (stateInv_iff _).2 ⟨accept_wf .idle s, .idle rfl rfl rfl rfl rfl rfl rfl⟩
  | execute w opc p1 p2a p2b data hd => exact beginExecute_inv _ _ _ _ _ hd rfl rfl (.host rfl rfl)
  | idread => exact beginLibExecute_inv _ _ _ _ (by simp) rfl rfl (.inl ⟨rfl, rfl⟩)
  | selftest => exact beginLibExecute_inv _ _ _ _ (by simp) rfl rfl (.inl ⟨rfl, rfl⟩)
  | sha256 h text => exact (stateInv_iff _).2 ⟨accept_wf .sha256 s, .prepare rfl rfl rfl rfl rfl rfl rfl⟩

/-- A request is served soundly in any state: the operation starts from a cleared machine (R43). -/
theorem serveRequest_sound (bytes : Bytes) (s : State) : SoundOutcome (serveRequest bytes s) := by
  rcases serveRequest_cases bytes s with ⟨i, -, hi, e⟩ | ⟨why, -, e⟩ <;> rw [e]
  · rcases exec_request_cases hi s with ⟨r, e⟩ | ⟨-, t, ht, e⟩ | ⟨-, u, hu, e⟩ <;> rw [e]
    · trivial
    · exact ht.inv
    · exact runOperation_sound hu.inv
  · split <;> trivial

/-- The register port writes no field the invariant speaks of (R132). -/
theorem portWrite_sound (c : CtrlReg) (v : Nat) {s : State} (h : StateInv s = true) : SoundOutcome (portWrite c v s) := by
  cases c
  case cfgBus | cfgDevaddr =>
    unfold portWrite
    dsimp only
    split
    · trivial
    · exact h
  all_goals trivial

/-- Every step from a state of the invariant is sound. -/
theorem step_sound {s : State} (h : StateInv s = true) : SoundOutcome (step s) := by
  rcases step_cases s with ⟨-, e⟩ | ⟨a, rest, -, e⟩ <;> rw [e]
  · exact ownStep_sound h
  · have h' : StateInv { s with inputs := rest } = true := h
    cases a with
    | request bytes => exact serveRequest_sound bytes _
    | regRead c => exact h'
    | regWrite c v => exact portWrite_sound c v h'
    | writeAnswer a => exact h'
    | readAnswer a => exact h'
    | pass => exact ownStep_sound h'

/-- Settles O50: every step from the invariant is sound, so its next state is in the invariant. -/
theorem stepKeepsInv : Obligations.StepKeepsInv := by
  intro s t h hstep
  have hs := step_sound h
  rwa [hstep] at hs

/-- Settles O51: every step from the invariant is sound, so it is not this fault. -/
theorem sequencerNeverLeavesTheTable : Obligations.SequencerNeverLeavesTheTable := by
  intro s h hstep
  have hs := step_sound h
  rw [hstep] at hs
  exact hs rfl

/-- Settles O49: the buffers are empty and the machine is between operations. -/
theorem invHoldsAtReset : Obligations.InvHoldsAtReset :=
  (stateInv_iff _).2 ⟨reset_memory_wf, .quiet rfl rfl rfl⟩

/-- Settles O39, register by register. -/
theorem resetLeavesTheStatedValues : Obligations.ResetLeavesTheStatedValues :=
  ⟨rfl, rfl, rfl, rfl, rfl, rfl, rfl, rfl, rfl, rfl, rfl, rfl, rfl, rfl, rfl, rfl, rfl⟩

/-! ### A recorded error -/

/-- `ERR`, `ERRINFO` and the transport's error value are the same. -/
def SameError (s t : State) : Prop := t.err = s.err ∧ t.errInfo = s.errInfo ∧ t.errBus = s.errBus

theorem endOperation_sameError (s : State) : SameError s (endOperation s) := by simp [SameError]

/-- An EXECUTE that returns with an error keeps it (R230, R245). -/
theorem leaveExecute_sameError {s t : State} (h : leaveExecute s = .moved t) (he : s.err ≠ .none) : SameError s t := by
  rcases leaveExecute_cases s with ⟨-, e⟩ | ⟨-, hn, -⟩ | ⟨-, -, -, e⟩ | ⟨-, -, -, e⟩
  · cases e.symm.trans h; simp [SameError]
  · exact absurd hn he
  · cases e.symm.trans h; simp [SameError]
  · cases e.symm.trans h; simp [SameError]

/-- In the invariant an error is recorded only at the exit of an EXECUTE and at the sleep of a library operation. -/
theorem stage_of_err {s : State} (h : StateInv s = true) (hb : s.busy = true) (he : s.err ≠ .none) :
    (s.seq.x = .xExit ∧ s.seq.w = (if s.idlep then .iWrite else .off)) ∨ s.seq.l = .lSleep ∧ s.seq.w = .sWrite := by
  cases ((stateInv_iff s).1 h).2 with
  | quiet hb' => simp [hb'] at hb
  | execute _ _ hn =>
    cases hx : s.seq.x <;> simp [exchangeNested, hx, he] at hn
    exact .inl ⟨rfl, hn.2⟩
  | librarySleep _ _ hl _ hw => exact .inr ⟨hl, hw⟩
  | wake | sleep | idle | prepare | format => contradiction

/-- Settles O57: of the two stages an error is recorded in, neither writes it. -/
theorem firstErrorStays : Obligations.FirstErrorStays := by
  intro s t h hmove he
  change SameError s t
  cases hb : s.busy
  · simp [seqStep_not_busy hb] at hmove
  rw [seqStep_busy hb] at hmove
  rcases stage_of_err h hb he with ⟨hx, hw⟩ | ⟨hl, hw⟩
  · cases hi : s.idlep <;> simp only [hi, Bool.false_eq_true, if_true, if_false] at hw
    · simp only [wStep, hw, xStep, hx, xExitStep, hi, Bool.false_eq_true, if_false] at hmove
      exact leaveExecute_sameError hmove he
    · cases ha : s.wrAns with
      | nil => simp [wStep, hw, iWriteStep, busWrite, ha] at hmove
      | cons a ws =>
        simp only [wStep, hw, iWriteStep_answered ha] at hmove
        rw [idleDone_execute (by exact hx)] at hmove
        have hkept := leaveExecute_sameError hmove he
        exact hkept
  · cases ha : s.wrAns with
    | nil => simp [wStep, hw, sWriteStep, busWrite, ha] at hmove
    | cons a ws =>
      simp only [wStep, hw, sWriteStep_answered ha, sleepDone, hl, true_or, if_true] at hmove
      cases hmove
      exact endOperation_sameError _

end Sys2Proof.Machine
end

section
/-! The frame of every row of the operation table, and that no rule reads `PWR`: one walk through the steps for both. What
is followed is a pair of runs that differ at most in `PWR` and in what the register port has returned, the first of them
with the frame of its start (R36 to R40, R43, R45). -/

namespace Sys2Proof.Machine

/-! ### The two relations -/

/-- What every row leaves (R36 to R39, R43, R45): the trace only grows, the transport's answers are taken from the front,
and the rest is unchanged. -/
structure Frame (s t : State) : Prop where
  config : SameConfig s t
  inputs : t.inputs = s.inputs
  replies : t.portReplies = s.portReplies
  trace : s.trace <+: t.trace
  writes : t.wrAns <:+ s.wrAns
  reads : t.rdAns <:+ s.rdAns

theorem Frame.refl (s : State) : Frame s s :=
  ⟨⟨rfl, rfl, rfl, rfl, rfl⟩, rfl, rfl, List.prefix_rfl, List.suffix_rfl, List.suffix_rfl⟩

theorem Frame.trans {s t u : State} (h : Frame s t) (k : Frame t u) : Frame s u := by
  obtain ⟨⟨h1, h2, h3, h4, h5⟩, hi, hp, ht, hw, hr⟩ := h
  obtain ⟨⟨k1, k2, k3, k4, k5⟩, ki, kp, kt, kw, kr⟩ := k
  exact ⟨⟨k1.trans h1, k2.trans h2, k3.trans h3, k4.trans h4, k5.trans h5⟩, ki.trans hi, kp.trans hp, ht.trans kt,
    kw.trans hw, kr.trans hr⟩

/-- An update that touches none of the framed fields but adds to the trace. -/
theorem Frame.of_trace {s t : State} (es : List Event) (ht : t.trace = s.trace ++ es)
    (hb : t.cfgBus = s.cfgBus := by simp) (hd : t.cfgDevaddr = s.cfgDevaddr := by simp)
    (hs : t.cfgSettle = s.cfgSettle := by simp) (hc : t.cfgCmdreg = s.cfgCmdreg := by simp)
    (hp : t.par = s.par := by simp) (hi : t.inputs = s.inputs := by simp)
    (hq : t.portReplies = s.portReplies := by simp) (hw : t.wrAns = s.wrAns := by simp)
    (hr : t.rdAns = s.rdAns := by simp) : Frame s t :=
  ⟨⟨hb, hd, hs, hc, hp⟩, hi, hq, ⟨es, ht.symm⟩, hw ▸ List.suffix_rfl, hr ▸ List.suffix_rfl⟩

/-- An update that touches none of the framed fields. -/
theorem Frame.of_eq {s t : State} (ht : t.trace = s.trace := by simp)
    (hb : t.cfgBus = s.cfgBus := by simp) (hd : t.cfgDevaddr = s.cfgDevaddr := by simp)
    (hs : t.cfgSettle = s.cfgSettle := by simp) (hc : t.cfgCmdreg = s.cfgCmdreg := by simp)
    (hp : t.par = s.par := by simp) (hi : t.inputs = s.inputs := by simp)
    (hq : t.portReplies = s.portReplies := by simp) (hw : t.wrAns = s.wrAns := by simp)
    (hr : t.rdAns = s.rdAns := by simp) : Frame s t :=
  .of_trace [] (by simpa using ht) hb hd hs hc hp hi hq hw hr

/-- A state without `PWR` and without what the register port has returned. -/
def hidePower (s : State) : State := { s with pwr := .dormant, portReplies := [] }

/-- From `a` a run has come to `s`, with the frame of `a`; another run stands at `t`, which differs from `s` at most in
`PWR` and in what the register port has returned. -/
structure Follows (a s t : State) : Prop where
  frame : Frame a s
  alike : hidePower s = hidePower t

variable {a s t : State}

/-- What can be read of a state without `PWR` and the port's replies is the same in the second run. -/
theorem Follows.congr {α : Type} (h : Follows a s t) (f : State → α)
    (hf : ∀ u, f (hidePower u) = f u := by intro; rfl) : f t = f s := by
  rw [← hf t, ← h.alike, hf s]

/-- Both runs make the same update, which does not read what is hidden. -/
theorem Follows.update (h : Follows a s t) (f : State → State) (hframe : Frame s (f s) := by exact .of_eq)
    (hf : ∀ u, hidePower (f (hidePower u)) = hidePower (f u) := by intro; rfl) : Follows a (f s) (f t) :=
  ⟨h.frame.trans hframe, by rw [← hf s, h.alike, hf t]⟩

/-- Two conditionals are related when their conditions agree and their branches are related. -/
theorem rel_ite {α : Type} {R : α → α → Prop} {c d : Prop} [Decidable c] [Decidable d] {x y x' y' : α} (hcd : d ↔ c)
    (hx : R x x') (hy : R y y') : R (if c then x else y) (if d then x' else y') := by
  by_cases hc : c
  · rwa [if_pos hc, if_pos (hcd.2 hc)]
  · rwa [if_neg hc, if_neg (mt hcd.1 hc)]

/-! ### The shared operations -/

theorem Follows.deliver (h : Follows a s t) (o : OpOutcome) : Follows a (deliver o s) (deliver o t) :=
  h.update (Machine.deliver o) (.of_trace [.outcome o] rfl)

theorem Follows.settleDelay (h : Follows a s t) : Follows a (settleDelay s) (settleDelay t) :=
  h.update Machine.settleDelay (.of_trace [.delay s.cfgSettle] rfl)

theorem Follows.setError (h : Follows a s t) (e : OpError) : Follows a (setError e s) (setError e t) :=
  h.update (Machine.setError e) .of_eq fun u => by cases e <;> rfl

theorem Follows.endOperation (h : Follows a s t) : Follows a (endOperation s) (endOperation t) := by
  have he : raisedError t = raisedError s := h.congr raisedError
  have hv : okValue t = okValue s := h.congr okValue
  unfold Machine.endOperation
  rw [he, hv]
  cases raisedError s
  · exact h.deliver _
  · exact h.deliver _

theorem Follows.verifyWrites (h : Follows a s t) : Follows a (verifyWrites s) (verifyWrites t) := by
  refine h.update Machine.verifyWrites ?_ fun u => ?_
  · obtain ⟨c, b, st, hv⟩ := verifyWrites_eq s
    rw [hv]
    exact .of_eq
  · have hr : (hidePower u).rxbuf = u.rxbuf := rfl
    unfold Machine.verifyWrites
    rw [hr]
    cases checkResponse u.rxbuf <;> rfl

theorem Follows.enterUpdate (h : Follows a s t) : Follows a (enterUpdate s) (enterUpdate t) := by
  have hc : (t.blk < blockCount t.msg) = (s.blk < blockCount s.msg) := h.congr fun u => u.blk < blockCount u.msg
  exact rel_ite hc.to_iff
    (h.update fun u => beginLibExecute .lUpdate u.par.opcSha u.par.shaUpdate (p2Low Config.block) (p2High Config.block)
      (hashBlock u.msg u.blk) u)
    (h.update fun u => beginLibExecute .lEnd u.par.opcSha u.par.shaEnd (p2Low (tailCount u.msg))
      (p2High (tailCount u.msg)) (hashTail u.msg) u)

/-! ### Results that follow each other -/

/-- Two sequencer steps do the same: both move to states that follow, both stay, or both raise the same fault. -/
inductive SeqResult.Follow (a : State) : SeqResult → SeqResult → Prop
  | moved {s t : State} (h : Follows a s t) : Follow a (.moved s) (.moved t)
  | stay : Follow a .stay .stay
  | fault (f : Fault) : Follow a (.fault f) (.fault f)

/-- Two outcomes are the same in this sense. -/
inductive FollowOutcome (a : State) : Host.Outcome State Fault Refusal → Host.Outcome State Fault Refusal → Prop
  | next {s t : State} (h : Follows a s t) : FollowOutcome a (.next s) (.next t)
  | fault (f : Fault) : FollowOutcome a (.fault f) (.fault f)
  | refused (r : Refusal) : FollowOutcome a (.refused r) (.refused r)

/-- Both runs take the same answer of the transport to the same write, or wait for it. -/
theorem Follows.busWrite (h : Follows a s t) (dev reg : Byte) (b : Bytes) :
    (busWrite dev reg b s = none ∧ busWrite dev reg b t = none) ∨
      ∃ ans s' t', busWrite dev reg b s = some (ans, s') ∧ busWrite dev reg b t = some (ans, t') ∧ Follows a s' t' := by
  have hw : t.wrAns = s.wrAns := h.congr State.wrAns
  rcases busWrite_cases dev reg b s with ⟨hs, e⟩ | ⟨ans, ws, hs, e⟩ <;>
    rcases busWrite_cases dev reg b t with ⟨ht, e'⟩ | ⟨ans', ws', ht, e'⟩ <;> rw [hw, hs] at ht <;> cases ht
  · exact .inl ⟨e, e'⟩
  · refine .inr ⟨ans, _, _, e, e', ?_⟩
    exact h.update (fun u => { u with wrAns := ws, trace := u.trace ++ [.busWrite u.cfgBus dev reg b ans] })
      ⟨⟨rfl, rfl, rfl, rfl, rfl⟩, rfl, rfl, List.prefix_append _ _, hs ▸ List.suffix_cons ans ws, List.suffix_rfl⟩

/-- Both runs take the same answer of the transport to the same read, or wait for it. -/
theorem Follows.busRead (h : Follows a s t) (dev reg : Byte) (n : Nat) :
    (busRead dev reg n s = none ∧ busRead dev reg n t = none) ∨
      ∃ ans s' t', busRead dev reg n s = some (ans, s') ∧ busRead dev reg n t = some (ans, t') ∧ Follows a s' t' := by
  have hr : t.rdAns = s.rdAns := h.congr State.rdAns
  rcases busRead_cases dev reg n s with ⟨hs, e⟩ | ⟨ans, rs, hs, e⟩ <;>
    rcases busRead_cases dev reg n t with ⟨ht, e'⟩ | ⟨ans', rs', ht, e'⟩ <;> rw [hr, hs] at ht <;> cases ht
  · exact .inl ⟨e, e'⟩
  · refine .inr ⟨ans, _, _, e, e', ?_⟩
    exact h.update (fun u => { u with rdAns := rs, trace := u.trace ++ [.busRead u.cfgBus dev reg n ans] })
      ⟨⟨rfl, rfl, rfl, rfl, rfl⟩, rfl, rfl, List.prefix_append _ _, List.suffix_rfl, hs ▸ List.suffix_cons ans rs⟩

/-! ### Leaving an EXECUTE and raising an error -/

theorem Follows.libNext (h : Follows a s t) : (libNext s).Follow a (libNext t) := by
  have hop : t.seq.op = s.seq.op := h.congr fun u => u.seq.op
  have hl : t.seq.l = s.seq.l := h.congr fun u => u.seq.l
  have hformat : (SeqResult.moved (enterFormat s)).Follow a (.moved (enterFormat t)) := .moved (h.update enterFormat)
  unfold Machine.libNext
  rw [hop, hl]
  split
  case h_1 | h_2 | h_5 => exact hformat
  case h_3 => exact .moved h.enterUpdate
  case h_4 => exact .moved (h.update fun u => { u with blk := u.blk + 1 }).enterUpdate
  case h_6 => exact .fault _

theorem Follows.libError (h : Follows a s t) : Follows a (libError s) (libError t) := by
  have hp : t.par = s.par := h.congr State.par
  exact rel_ite (by rw [hp]) (h.update enterSleep) h.endOperation

theorem Follows.leaveExecute (h : Follows a s t) : (leaveExecute s).Follow a (leaveExecute t) := by
  have hq := h.update fun u => { u with seq := { u.seq with x := .off, w := .off } }
  have hl : t.seq.l = s.seq.l := h.congr fun u => u.seq.l
  have he : t.err = s.err := h.congr State.err
  exact rel_ite (by rw [hl]) (.moved hq.endOperation) (rel_ite (by rw [he]) hq.libNext (.moved hq.libError))

theorem Follows.raise (h : Follows a s t) (e : OpError) : (raise e s).Follow a (raise e t) := by
  have hx : t.seq.x = s.seq.x := h.congr fun u => u.seq.x
  unfold Machine.raise
  simp only [setError_seq, hx]
  cases s.seq.x
  case off => exact .moved (h.setError e).endOperation
  case xWake => exact (h.setError e).leaveExecute
  all_goals exact .moved ((h.setError e).update enterExit)

/-! ### The sequencer's steps -/

theorem Follows.wakeDone (h : Follows a s t) : Follows a (wakeDone s) (wakeDone t) := by
  have hq := h.update fun u => { u with pwr := .awake, seq := { u.seq with w := .off } }
  have hop : t.seq.op = s.seq.op := h.congr fun u => u.seq.op
  have hx : t.seq.x = s.seq.x := h.congr fun u => u.seq.x
  have hend := rel_ite (R := Follows a) (c := s.seq.op = .wake) (d := t.seq.op = .wake) (by rw [hop]) hq.endOperation hq
  by_cases hx' : s.seq.x = .xWake
  · rw [wakeDone_execute hx', wakeDone_execute (hx.trans hx')]
    exact hq.update advanceX
  · rw [wakeDone_host hx', wakeDone_host (by rwa [hx])]
    exact hend

theorem Follows.sleepDone (h : Follows a s t) : Follows a (sleepDone s) (sleepDone t) := by
  have hq := h.update fun u => { u with pwr := .dormant, seq := { u.seq with w := .off } }
  have hseq : t.seq = s.seq := h.congr State.seq
  exact rel_ite (by simp [hseq]) hq.endOperation hq

theorem Follows.idleDone (h : Follows a s t) : (idleDone s).Follow a (idleDone t) := by
  have hq := h.update fun u => { u with pwr := .idle, seq := { u.seq with w := .off } }
  have hop : t.seq.op = s.seq.op := h.congr fun u => u.seq.op
  have hx : t.seq.x = s.seq.x := h.congr fun u => u.seq.x
  have hend := rel_ite (R := Follows a) (c := s.seq.op = .idle) (d := t.seq.op = .idle) (by rw [hop]) hq.endOperation hq
  by_cases hx' : s.seq.x = .xExit
  · rw [idleDone_execute hx', idleDone_execute (hx.trans hx')]
    exact (hq.update fun u => { u with idlep := false }).leaveExecute
  · rw [idleDone_host hx', idleDone_host (by rwa [hx])]
    exact .moved hend

theorem Follows.deliverVerified (h : Follows a s t) (r : VerifyResult) :
    Follows a (deliverVerified r s) (deliverVerified r t) := by
  cases r with
  | ok p st => exact h.deliver _
  | error e => exact (h.setError e).deliver _

theorem Follows.finishVerify (h : Follows a s t) (r : VerifyResult) :
    (finishVerify r s).Follow a (finishVerify r t) := by
  have hseq : t.seq = s.seq := h.congr State.seq
  by_cases hw : s.seq.w = .wVerify
  · have hw' : t.seq.w = .wVerify := by rwa [hseq]
    by_cases hr : ∃ p, r = .ok p (some .afterWakeBeforeFirstCommand)
    · obtain ⟨p, rfl⟩ := hr
      rw [finishVerify_afterWake hw, finishVerify_afterWake hw']
      exact .moved h.wakeDone
    · rw [finishVerify_wakeFailed hw (not_exists.1 hr), finishVerify_wakeFailed hw' (not_exists.1 hr)]
      exact h.raise _
  have hw' : t.seq.w ≠ .wVerify := by rwa [hseq]
  by_cases hx : s.seq.x = .xVerify
  · have hx' : t.seq.x = .xVerify := by rwa [hseq]
    cases r with
    | ok p st =>
      rw [finishVerify_execute_ok hw hx, finishVerify_execute_ok hw' hx']
      exact .moved (h.update enterExit)
    | error e =>
      rw [finishVerify_execute_error hw hx, finishVerify_execute_error hw' hx']
      exact h.raise e
  · rw [finishVerify_unit hw hx, finishVerify_unit hw' (by rwa [hseq])]
    exact .moved (h.deliverVerified r)

theorem Follows.verifyStep (h : Follows a s t) : (verifyStep s).Follow a (verifyStep t) := by
  have hr : verifyResult t.par.statusMap t.rxbuf = verifyResult s.par.statusMap s.rxbuf :=
    h.congr fun u => verifyResult u.par.statusMap u.rxbuf
  unfold Machine.verifyStep
  rw [hr]
  exact h.verifyWrites.finishVerify _

theorem Follows.wWriteStep (h : Follows a s t) : (wWriteStep s).Follow a (wWriteStep t) := by
  unfold Machine.wWriteStep
  rcases h.busWrite Config.wakeDevaddr Config.reg0 [0x00#8] with ⟨e, e'⟩ | ⟨ans, s', t', e, e', h'⟩ <;> rw [e, e']
  · exact .stay
  · exact .moved (h'.update advanceW)

theorem Follows.wReadStep (h : Follows a s t) : (wReadStep s).Follow a (wReadStep t) := by
  have hd : t.cfgDevaddr = s.cfgDevaddr := h.congr State.cfgDevaddr
  unfold Machine.wReadStep
  rw [hd]
  rcases h.busRead s.cfgDevaddr Config.reg0 4 with ⟨e, e'⟩ | ⟨ans, s', t', e, e', h'⟩ <;> rw [e, e']
  · exact .stay
  · cases ans with
    | err e => exact h'.raise _
    | bytes b => exact .moved (h'.update fun u => advanceW { u with rxbuf := b })

theorem Follows.sWriteStep (h : Follows a s t) : (sWriteStep s).Follow a (sWriteStep t) := by
  have hd : t.cfgDevaddr = s.cfgDevaddr := h.congr State.cfgDevaddr
  have hc : t.cfgCmdreg = s.cfgCmdreg := h.congr State.cfgCmdreg
  unfold Machine.sWriteStep
  rw [hd, hc]
  rcases h.busWrite s.cfgDevaddr s.cfgCmdreg [Config.sleepByte] with ⟨e, e'⟩ | ⟨ans, s', t', e, e', h'⟩ <;> rw [e, e']
  · exact .stay
  · exact .moved h'.sleepDone

theorem Follows.iWriteStep (h : Follows a s t) : (iWriteStep s).Follow a (iWriteStep t) := by
  have hd : t.cfgDevaddr = s.cfgDevaddr := h.congr State.cfgDevaddr
  have hc : t.cfgCmdreg = s.cfgCmdreg := h.congr State.cfgCmdreg
  unfold Machine.iWriteStep
  rw [hd, hc]
  rcases h.busWrite s.cfgDevaddr s.cfgCmdreg [Config.idleByte] with ⟨e, e'⟩ | ⟨ans, s', t', e, e', h'⟩ <;> rw [e, e']
  · exact .stay
  · exact h'.idleDone

theorem Follows.xWrcmdStep (h : Follows a s t) : (xWrcmdStep s).Follow a (xWrcmdStep t) := by
  have hd : t.cfgDevaddr = s.cfgDevaddr := h.congr State.cfgDevaddr
  have hc : t.cfgCmdreg = s.cfgCmdreg := h.congr State.cfgCmdreg
  have htx : t.txbuf = s.txbuf := h.congr State.txbuf
  unfold Machine.xWrcmdStep
  rw [hd, hc, htx]
  rcases h.busWrite s.cfgDevaddr s.cfgCmdreg s.txbuf with ⟨e, e'⟩ | ⟨ans, s', t', e, e', h'⟩ <;> rw [e, e']
  · exact .stay
  · cases ans with
    | err e => exact h'.raise _
    | ok => exact .moved (h'.update advanceX)

theorem Follows.xTrigStep (h : Follows a s t) : (xTrigStep s).Follow a (xTrigStep t) := by
  have hd : t.cfgDevaddr = s.cfgDevaddr := h.congr State.cfgDevaddr
  unfold Machine.xTrigStep
  rw [hd]
  rcases h.busWrite s.cfgDevaddr Config.reg0 [0x00#8] with ⟨e, e'⟩ | ⟨ans, s', t', e, e', h'⟩ <;> rw [e, e']
  · exact .stay
  · cases ans with
    | err e => exact h'.raise _
    | ok => exact .moved (h'.update advanceX)

theorem Follows.xRdlenStep (h : Follows a s t) : (xRdlenStep s).Follow a (xRdlenStep t) := by
  have hd : t.cfgDevaddr = s.cfgDevaddr := h.congr State.cfgDevaddr
  have hc : t.cfgCmdreg = s.cfgCmdreg := h.congr State.cfgCmdreg
  unfold Machine.xRdlenStep
  rw [hd, hc]
  rcases h.busRead s.cfgDevaddr s.cfgCmdreg 1 with ⟨e, e'⟩ | ⟨ans, s', t', e, e', h'⟩ <;> rw [e, e']
  · exact .stay
  · rcases ans with (_ | ⟨n, b⟩) | e
    · exact .fault _
    · exact .moved (h'.update fun u => advanceX { u with rlen := n })
    · exact h'.raise _

theorem Follows.xRdfrmStep (h : Follows a s t) : (xRdfrmStep s).Follow a (xRdfrmStep t) := by
  have hd : t.cfgDevaddr = s.cfgDevaddr := h.congr State.cfgDevaddr
  have hc : t.cfgCmdreg = s.cfgCmdreg := h.congr State.cfgCmdreg
  have hn : t.rlen = s.rlen := h.congr State.rlen
  unfold Machine.xRdfrmStep
  rw [hd, hc, hn]
  rcases h.busRead s.cfgDevaddr s.cfgCmdreg s.rlen.toNat with ⟨e, e'⟩ | ⟨ans, s', t', e, e', h'⟩ <;> rw [e, e']
  · exact .stay
  · cases ans with
    | err e => exact h'.raise _
    | bytes b => exact .moved (h'.update fun u => advanceX { u with rxbuf := b })

theorem Follows.lPrepStep (h : Follows a s t) : (lPrepStep s).Follow a (lPrepStep t) := by
  have hm : messageBytes t = messageBytes s := h.congr messageBytes
  cases hs : messageBytes s with
  | none =>
    rw [lPrepStep_none hs, lPrepStep_none (hm.trans hs)]
    exact h.raise _
  | some m =>
    rw [lPrepStep_some hs, lPrepStep_some (hm.trans hs)]
    exact .moved (h.update fun u =>
      beginLibExecute .lExec u.par.opcSha u.par.shaStart 0#8 0#8 [] { u with msg := m, blk := 0 })

theorem Follows.lFormatStep (h : Follows a s t) : (lFormatStep s).Follow a (lFormatStep t) := by
  have ho : outputText t = outputText s := h.congr outputText
  cases hs : outputText s with
  | ok text =>
    rw [lFormatStep_ok hs, lFormatStep_ok (ho.trans hs)]
    exact .moved (h.update fun u => enterSleep { u with text := text })
  | error f =>
    rw [lFormatStep_error hs, lFormatStep_error (ho.trans hs)]
    exact .fault f

theorem Follows.lStep (h : Follows a s t) : (lStep s).Follow a (lStep t) := by
  have hl : t.seq.l = s.seq.l := h.congr fun u => u.seq.l
  unfold Machine.lStep
  rw [hl]
  cases s.seq.l
  case lPrep => exact h.lPrepStep
  case lFormat => exact h.lFormatStep
  all_goals exact .fault _

theorem Follows.xStep (h : Follows a s t) : (xStep s).Follow a (xStep t) := by
  have hx : t.seq.x = s.seq.x := h.congr fun u => u.seq.x
  have hw : t.wrap = s.wrap := h.congr State.wrap
  have hi : t.idlep = s.idlep := h.congr State.idlep
  unfold Machine.xStep
  rw [hx]
  cases s.seq.x
  case off => exact h.lStep
  case xWake => exact rel_ite (by rw [hw]) (.fault _) (.moved (h.update advanceX))
  case xArm => exact .moved ((rel_ite (by rw [hw]) (h.update fun u => { u with idlep := true }) h).update advanceX)
  case xEncode => exact .moved (h.update fun u => advanceX (encodeFrame u))
  case xWrcmd => exact h.xWrcmdStep
  case xSettle => exact .moved (h.settleDelay.update advanceX)
  case xTrig => exact h.xTrigStep
  case xRdlen => exact h.xRdlenStep
  case xRdfrm => exact h.xRdfrmStep
  case xVerify => exact h.verifyStep
  case xExit => exact rel_ite (by rw [hi]) (.fault _) h.leaveExecute

theorem Follows.wStep (h : Follows a s t) : (wStep s).Follow a (wStep t) := by
  have hw : t.seq.w = s.seq.w := h.congr fun u => u.seq.w
  unfold Machine.wStep
  rw [hw]
  cases s.seq.w
  case off => exact h.xStep
  case wWrite => exact h.wWriteStep
  case wSettle => exact .moved (h.settleDelay.update advanceW)
  case wRead => exact h.wReadStep
  case wVerify => exact h.verifyStep
  case sWrite => exact h.sWriteStep
  case iWrite => exact h.iWriteStep

/-- Both runs take the same sequencer step. -/
theorem Follows.seqStep (h : Follows a s t) : (seqStep s).Follow a (seqStep t) := by
  have hb : t.busy = s.busy := h.congr State.busy
  exact rel_ite (by rw [hb]) h.wStep .stay

/-! ### The rows of the operation table -/

theorem Follows.ofSeq {r r' : SeqResult} (h : Follows a s t) (hr : r.Follow a r') :
    FollowOutcome a (ofSeq s r) (ofSeq t r') := by
  cases hr with
  | moved h' => exact .next h'
  | stay => exact .next h
  | fault f => exact .fault f

theorem Follows.runSeq (n : Nat) {s t : State} (h : Follows a s t) : FollowOutcome a (runSeq n s) (runSeq n t) := by
  induction n generalizing s t with
  | zero => exact .next h
  | succ n ih =>
    have hq := h.seqStep
    simp only [Machine.runSeq]
    generalize Machine.seqStep s = r, Machine.seqStep t = r' at hq
    cases hq with
    | moved h' => exact ih h'
    | stay => exact .next h
    | fault f => exact .fault f

theorem Follows.runOperation (h : Follows a s t) : FollowOutcome a (runOperation s) (runOperation t) := by
  have hi : t.inputs = s.inputs := h.congr State.inputs
  have hn : stepBudget t = stepBudget s := h.congr stepBudget
  unfold Machine.runOperation
  rw [hi, hn]
  cases s.inputs
  · exact h.runSeq _
  · exact .next h

theorem Follows.whenIdle {k k' : Host.Outcome State Fault Refusal} (h : Follows a s t) (hk : FollowOutcome a k k') :
    FollowOutcome a (whenIdle s k) (whenIdle t k') := by
  have hb : t.busy = s.busy := h.congr State.busy
  exact rel_ite (by rw [hb]) (.refused _) hk

theorem Follows.responseStep (h : Follows a s t) (buf : Bytes) :
    FollowOutcome a (responseStep buf s) (responseStep buf t) := by
  have hq := h.update fun u => { u with rxbuf := buf }
  exact hq.ofSeq hq.verifyStep

theorem Follows.sendCommand (h : Follows a s t) (opc p1 p2a p2b : Byte) (data : Bytes) :
    FollowOutcome a (sendCommand opc p1 p2a p2b data s) (sendCommand opc p1 p2a p2b data t) := by
  have hq := h.update fun u => encodeFrame (loadOperands opc p1 p2a p2b data u)
  exact hq.ofSeq hq.xWrcmdStep

theorem Follows.statusStep (h : Follows a s t) (st : Status) (b : Byte) :
    FollowOutcome a (statusStep st b s) (statusStep st b t) :=
  h.ofSeq ((h.update (writeStatus st b)).finishVerify _)

theorem Follows.reportCapability (h : Follows a s t) (c : Capability) (mask : Byte) :
    FollowOutcome a (reportCapability c mask s) (reportCapability c mask t) :=
  .next (h.update fun u => { u with text := u.text ++ reportItem u.par.stBits mask c })

/-- Both runs give every row of the operation table the same meaning. -/
theorem Follows.exec (h : Follows a s t) (i : Instr) : FollowOutcome a (exec i s) (exec i t) := by
  have hp : t.par = s.par := h.congr State.par
  cases i
  case crc16 bytes =>
    exact h.whenIdle (.next ((h.update fun u => { accept .crc16 u with crc := crcReg bytes }).deliver _))
  case crcchk buf =>
    exact h.whenIdle (rel_ite .rfl
      (.next ((h.update fun u => { accept .crcchk u with crc := crcReg (frameBody buf) }).deliver _)) (.refused _))
  case encode opc p1 p2a p2b data =>
    exact h.whenIdle (rel_ite .rfl
      (.next ((h.update fun u => encodeFrame (loadOperands opc p1 p2a p2b data (accept .encode u))).deliver _))
      (.refused _))
  case verify buf => exact h.whenIdle ((h.update (accept .verify)).responseStep buf)
  case stdec b =>
    refine h.whenIdle ?_
    rw [hp]
    exact .next ((h.update fun u => { accept .stdec u with status := some (stdec s.par.statusMap b) }).deliver _)
  case wake =>
    exact h.whenIdle (h.update fun u => { accept .wake u with seq := ⟨.wake, .off, .off, .wWrite⟩ }).runOperation
  case sleep =>
    exact h.whenIdle (h.update fun u => { accept .sleep u with seq := ⟨.sleep, .off, .off, .sWrite⟩ }).runOperation
  case idle =>
    exact h.whenIdle (h.update fun u => { accept .idle u with seq := ⟨.idle, .off, .off, .iWrite⟩ }).runOperation
  case execute w opc p1 p2a p2b data =>
    exact h.whenIdle (rel_ite .rfl
      (h.update fun u => beginExecute opc p1 p2a p2b data w (accept .execute u)).runOperation (.refused _))
  case idread =>
    exact h.whenIdle (h.update fun u =>
      beginLibExecute .lExec u.par.opcRead Config.readP1 0#8 0#8 [] (accept .idread u)).runOperation
  case selftest =>
    exact h.whenIdle (h.update fun u =>
      beginLibExecute .lExec u.par.opcSelftest Config.selftestP1 0#8 0#8 [] (accept .selftest u)).runOperation
  case sha256 isHex text =>
    exact h.whenIdle (h.update fun u =>
      { accept .sha256 u with
        seq := ⟨.sha256, .lPrep, .off, .off⟩, hashText := text, hashHex := isHex }).runOperation
  case reservedOp0 | reservedOpD | reservedOpE | reservedOpF => exact .refused _
  case cmdGeneric opc p1 p2a p2b data => exact rel_ite .rfl (h.sendCommand _ _ _ _ _) (.refused _)
  case readId | selftestAll | shaStart =>
    change FollowOutcome a (Machine.sendCommand _ _ _ _ _ s) (Machine.sendCommand _ _ _ _ _ t)
    rw [hp]
    exact h.sendCommand _ _ _ _ _
  case shaUpdate block =>
    change FollowOutcome a (execShaUpdate block s) (execShaUpdate block t)
    unfold execShaUpdate
    rw [hp]
    exact rel_ite .rfl (h.sendCommand _ _ _ _ _) (rel_ite .rfl (.refused _) (.refused _))
  case shaEnd tail =>
    change FollowOutcome a (execShaEnd tail s) (execShaEnd tail t)
    unfold execShaEnd
    rw [hp]
    exact rel_ite .rfl (h.sendCommand _ _ _ _ _) (.refused _)
  case respStatus count status => exact h.responseStep _
  case respData count payload => exact h.responseStep _
  case wakeWr => exact h.ofSeq h.wWriteStep
  case sleepWr => exact h.ofSeq h.sWriteStep
  case idleWr => exact h.ofSeq h.iWriteStep
  case trigWr => exact h.ofSeq h.xTrigStep
  case statusSuccess | statusChecksumOrVerifyMiscompare | statusUnknown => exact h.statusStep _ _
  case stFailSha | stFailAes | stFailEcdh | stFailEcdsaSign | stFailEcdsaVerify | stFailRngDrbg =>
    exact h.reportCapability _ _
  all_goals
    change FollowOutcome a (Machine.statusStep _ _ s) (Machine.statusStep _ _ t)
    rw [hp]
    exact h.statusStep _ _

/-- Every row keeps the frame: the run followed beside itself. -/
theorem exec_frame {i : Instr} {s t : State} (h : exec i s = .next t) : Frame s t := by
  have hf := Follows.exec (a := s) ⟨.refl s, rfl⟩ i
  rw [h] at hf
  cases hf with
  | next hf => exact hf.frame

theorem ownStep_frame {s t : State} (h : ownStep s = .next t) : Frame s t := by
  have hs : Follows s s s := ⟨.refl s, rfl⟩
  have hf : FollowOutcome s (ownStep s) (ownStep s) := hs.ofSeq hs.seqStep
  rw [h] at hf
  cases hf with
  | next hf => exact hf.frame

/-- Settles O41: followed beside itself, every row keeps the frame. -/
theorem everyRowKeepsTheConfiguration : Obligations.EveryRowKeepsTheConfiguration := by
  intro i s t h
  obtain ⟨hc, hi, hp, ⟨es, ht⟩, ⟨ws, hw⟩, ⟨rs, hr⟩⟩ := exec_frame h
  exact ⟨hc, hi, hp, ⟨es, ht.symm⟩, ⟨ws, hw.symm⟩, ⟨rs, hr.symm⟩⟩

end Sys2Proof.Machine
end

section
/-! A step of the machine: what it leaves of the configuration (R36 to R39, R45), and that `PWR` changes nothing but itself
and what the host reads of it (R40). -/

namespace Sys2Proof.Machine

/-! ### The configuration -/

theorem step_input {s : State} {i : Input} {rest : List Input} (h : s.inputs = i :: rest) :
    step s = serveInput i { s with inputs := rest } := by
  simp [step, stepOnce, h]

/-- A register write that is taken writes `CFG_BUS` or `CFG_DEVADDR`, and nothing else (R132). -/
theorem portWrite_next {c : CtrlReg} {v : Nat} {s t : State} (h : portWrite c v s = .next t) :
    (c = .cfgBus ∧ t = { s with cfgBus := BitVec.ofNat 8 v }) ∨
      (c = .cfgDevaddr ∧ t = { s with cfgDevaddr := BitVec.ofNat 8 v }) := by
  cases c <;> simp only [portWrite] at h
  case cfgBus =>
    split at h <;> cases h
    exact .inl ⟨rfl, rfl⟩
  case cfgDevaddr =>
    split at h <;> cases h
    exact .inr ⟨rfl, rfl⟩
  all_goals cases h

theorem serveRequest_sameConfig {bytes : Bytes} {s t : State} (h : serveRequest bytes s = .next t) : SameConfig s t := by
  rcases serveRequest_cases bytes s with ⟨i, -, -, e⟩ | ⟨why, -, e⟩ <;> rw [e] at h
  · exact (exec_frame h).config
  · split at h <;> cases h

/-- An input leaves the configuration, or is a register write of one of its two writable registers. -/
theorem serveInput_config {i : Input} {s t : State} (h : serveInput i s = .next t) :
    SameConfig s t ∨ (∃ v, i = .regWrite .cfgBus v ∧ t = { s with cfgBus := BitVec.ofNat 8 v }) ∨
      ∃ v, i = .regWrite .cfgDevaddr v ∧ t = { s with cfgDevaddr := BitVec.ofNat 8 v } := by
  cases i with
  | request bytes => exact .inl (serveRequest_sameConfig h)
  | pass => exact .inl (ownStep_frame h).config
  | regRead | writeAnswer | readAnswer => cases h; exact .inl ⟨rfl, rfl, rfl, rfl, rfl⟩
  | regWrite c v =>
    rcases portWrite_next h with ⟨rfl, rfl⟩ | ⟨rfl, rfl⟩
    · exact .inr (.inl ⟨v, rfl, rfl⟩)
    · exact .inr (.inr ⟨v, rfl, rfl⟩)

/-- Settles O56: AFC's own step and a request keep the frame, and the register port writes its one register. -/
theorem configurationIsStable : Obligations.ConfigurationIsStable := by
  intro s t h
  cases hin : s.inputs with
  | nil =>
    rw [step_no_input hin] at h
    obtain ⟨hb, hd, hs, hc, hp⟩ := (ownStep_frame h).config
    exact ⟨hp, hs, hc, fun _ => hb, fun _ => hd⟩
  | cons i rest =>
    rw [step_input hin] at h
    rcases serveInput_config h with ⟨hb, hd, hs, hc, hp⟩ | ⟨v, rfl, rfl⟩ | ⟨v, rfl, rfl⟩
    · exact ⟨hp, hs, hc, fun _ => hb, fun _ => hd⟩
    · exact ⟨rfl, rfl, rfl, fun hne => absurd rfl (hne v), fun _ => rfl⟩
    · exact ⟨rfl, rfl, rfl, fun _ => rfl, fun hne => absurd rfl (hne v)⟩

/-! ### The power state -/

/-- Two outcomes that differ at most in `PWR` and in what the register port has returned. -/
inductive AlikeOutcome : Host.Outcome State Fault Refusal → Host.Outcome State Fault Refusal → Prop
  | next {s t : State} (h : hidePower s = hidePower t) : AlikeOutcome (.next s) (.next t)
  | fault (f : Fault) : AlikeOutcome (.fault f) (.fault f)
  | refused (r : Refusal) : AlikeOutcome (.refused r) (.refused r)

theorem FollowOutcome.alike {a : State} {o o' : Host.Outcome State Fault Refusal} (h : FollowOutcome a o o') :
    AlikeOutcome o o' := by
  cases h with
  | next h => exact .next h.alike
  | fault f => exact .fault f
  | refused r => exact .refused r

variable {s t : State}

theorem serveRequest_alike (h : hidePower s = hidePower t) (bytes : Bytes) :
    AlikeOutcome (serveRequest bytes s) (serveRequest bytes t) := by
  have hf : Follows s s t := ⟨.refl s, h⟩
  have hb : t.busy = s.busy := hf.congr State.busy
  rcases serveRequest_cases bytes s with ⟨i, hi, -, e⟩ | ⟨why, hw, e⟩ <;>
    rcases serveRequest_cases bytes t with ⟨i', hi', -, e'⟩ | ⟨why', hw', e'⟩ <;> rw [e, e']
  · cases hi.symm.trans hi'
    exact (hf.exec i).alike
  · cases hi.symm.trans hw'
  · cases hw.symm.trans hi'
  · cases hw.symm.trans hw'
    exact rel_ite (by rw [hb]) (.refused _) (.refused _)

theorem portWrite_alike (h : hidePower s = hidePower t) (c : CtrlReg) (v : Nat) :
    AlikeOutcome (portWrite c v s) (portWrite c v t) := by
  have hf : Follows s s t := ⟨.refl s, h⟩
  have hb : t.busy = s.busy := hf.congr State.busy
  cases c
  case cfgBus =>
    exact rel_ite (by rw [hb]) (.refused _) (.next (congrArg (fun u => { u with cfgBus := BitVec.ofNat 8 v }) h))
  case cfgDevaddr =>
    exact rel_ite (by rw [hb]) (.refused _) (.next (congrArg (fun u => { u with cfgDevaddr := BitVec.ofNat 8 v }) h))
  all_goals exact .refused _

theorem ownStep_alike (h : hidePower s = hidePower t) : AlikeOutcome (ownStep s) (ownStep t) := by
  have hf : Follows s s t := ⟨.refl s, h⟩
  exact (hf.ofSeq hf.seqStep).alike

theorem serveInput_alike (h : hidePower s = hidePower t) (i : Input) :
    AlikeOutcome (serveInput i s) (serveInput i t) := by
  cases i with
  | request bytes => exact serveRequest_alike h bytes
  | regRead c => exact .next h
  | regWrite c v => exact portWrite_alike h c v
  | writeAnswer a => exact .next (congrArg (fun u => { u with wrAns := u.wrAns ++ [a] }) h)
  | readAnswer a => exact .next (congrArg (fun u => { u with rdAns := u.rdAns ++ [a] }) h)
  | pass => exact ownStep_alike h

theorem step_alike (h : hidePower s = hidePower t) : AlikeOutcome (step s) (step t) := by
  have hin : t.inputs = s.inputs := (congrArg State.inputs h).symm
  cases hi : s.inputs with
  | nil =>
    rw [step_no_input hi, step_no_input (hin.trans hi)]
    exact ownStep_alike h
  | cons i rest =>
    have hrest : hidePower { s with inputs := rest } = hidePower { t with inputs := rest } :=
      congrArg (fun u => { u with inputs := rest }) h
    rw [step_input hi, step_input (hin.trans hi)]
    exact serveInput_alike hrest i

/-- Settles O53: the two steps have outcomes that differ at most in what is hidden. -/
theorem powerIsReadByNoRule : Obligations.PowerIsReadByNoRule := by
  intro s s' hide h
  have ho : AlikeOutcome (step s) (step s') := step_alike h
  generalize step s = o, step s' = o' at ho ⊢
  cases ho with
  | next hn =>
    refine ⟨fun t ht => ?_, fun _ hf => (by cases hf), fun _ hr => (by cases hr)⟩
    cases ht
    exact ⟨_, rfl, hn.symm⟩
  | fault f => exact ⟨fun _ ht => (by cases ht), fun _ hf => hf, fun _ hr => (by cases hr)⟩
  | refused r => exact ⟨fun _ ht => (by cases ht), fun _ hf => (by cases hf), fun _ hr => hr⟩

end Sys2Proof.Machine
end

section
/-! What a unit operation leaves (10_state.md R20, R42, R43; 60_exceptions.md R291). -/

namespace Sys2Proof.Machine

variable {i : Instr} {s t : State}

/-- The five operations that end in the step that accepts them (R29). -/
def unitOperation : Instr → Bool
  | .crc16 _ => true
  | .crcchk _ => true
  | .encode _ _ _ _ _ => true
  | .verify _ => true
  | .stdec _ => true
  | _ => false

theorem channelOf_unitOperation (h : unitOperation i = true) : channelOf i = .hostRequest := by
  cases i
  case crc16 | crcchk | encode | verify | stdec => rfl
  all_goals cases h

theorem unitResult_of_exec (hu : unitOperation i = true) (h : exec i s = .next t) : UnitResult s i t := by
  rcases exec_request_cases (channelOf_unitOperation hu) s with ⟨r, e⟩ | ⟨-, t', ht, e⟩ | ⟨-, u, hfirst, e⟩
  · cases e.symm.trans h
  · cases e.symm.trans h
    exact ht
  · cases hfirst <;> cases hu

/-! ### The outcome and the error registers -/

/-- The error registers agree with the outcome `o`: `ERR` is none for an ok outcome and the error for an error outcome, and
`ERRINFO` is clear unless the error records a status byte (R31, R281, R291). -/
structure Reports (o : OpOutcome) (t : State) : Prop where
  ok : ∀ v, o = .ok v → t.err = .none
  error : ∀ e, o = .error e → raisedError t = some e
  errInfo : t.err ≠ .unknownStatus → t.err ≠ .deviceError → t.errInfo = 0#8

theorem reports_ok {v : OkValue} (he : t.err = .none) (hi : t.errInfo = 0#8) : Reports (.ok v) t :=
  ⟨fun _ _ => he, nofun, fun _ _ => hi⟩

theorem reports_error {e : OpError} (he : raisedError t = some e)
    (hi : t.err ≠ .unknownStatus → t.err ≠ .deviceError → t.errInfo = 0#8) : Reports (.error e) t :=
  ⟨nofun, fun _ h => by cases h; exact he, hi⟩

/-- What VERIFY delivers and leaves in the error registers, over a machine whose error registers are clear. -/
theorem deliverVerified_eq (s : State) (he : s.err = .none) (hi : s.errInfo = 0#8) :
    ∃ o c b st k info,
      deliverVerified (verifyResult s.par.statusMap s.rxbuf) (verifyWrites s) =
          deliver o { s with crc := c, stb := b, status := st, err := k, errInfo := info } ∧
        Reports o { s with crc := c, stb := b, status := st, err := k, errInfo := info } := by
  obtain ⟨c, b, st, hv⟩ := verifyWrites_eq s
  rw [hv]
  cases hc : checkResponse s.rxbuf with
  | malformed =>
    simp only [verifyResult, hc]
    exact ⟨_, c, b, st, .malformedFrame, s.errInfo, rfl, reports_error rfl fun _ _ => hi⟩
  | badChecksum =>
    simp only [verifyResult, hc]
    exact ⟨_, c, b, st, .checksumMismatch, s.errInfo, rfl, reports_error rfl fun _ _ => hi⟩
  | data p =>
    simp only [verifyResult, hc]
    exact ⟨_, c, b, st, s.err, s.errInfo, rfl, reports_ok he hi⟩
  | status x =>
    simp only [verifyResult, hc, statusResult]
    split
    · exact ⟨_, c, b, st, .unknownStatus, x, rfl, reports_error rfl fun h => absurd rfl h⟩
    · split
      · exact ⟨_, c, b, st, .deviceError, x, rfl, reports_error rfl fun _ h => absurd rfl h⟩
      · exact ⟨_, c, b, st, s.err, s.errInfo, rfl, reports_ok he hi⟩

/-- One outcome ends a unit operation, and the error registers agree with it. -/
theorem UnitResult.reports (h : UnitResult s i t) : ∃ o, t.trace = s.trace ++ [.outcome o] ∧ Reports o t := by
  cases h with
  | verify buf =>
    obtain ⟨o, c, b, st, k, info, ht, hr⟩ := deliverVerified_eq { accept .verify s with rxbuf := buf } rfl rfl
    refine ⟨o, congrArg State.trace ht, ?_⟩
    rw [← accept_par .verify s, ht]
    exact ⟨hr.ok, hr.error, hr.errInfo⟩
  | crc16 | crcchk | encode | stdec => exact ⟨_, rfl, reports_ok rfl rfl⟩

/-! ### What stays clear -/

/-- What every unit operation leaves as it was, or clear (R43). -/
structure UnitFrame (s t : State) : Prop where
  quiet : Quiet t
  config : SameConfig s t
  pwr : t.pwr = s.pwr
  wrAns : t.wrAns = s.wrAns
  rdAns : t.rdAns = s.rdAns
  inputs : t.inputs = s.inputs
  portReplies : t.portReplies = s.portReplies
  blk : t.blk = 0
  rlen : t.rlen = 0#8
  errBus : t.errBus = 0
  idlep : t.idlep = false
  wrap : t.wrap = false
  msg : t.msg = []
  hashText : t.hashText = []
  hashHex : t.hashHex = false
  text : t.text = []

/-- What every unit operation but ENCODE leaves clear (R20, R42). -/
def OperandsClear (t : State) : Prop :=
  t.opc = 0#8 ∧ t.p1 = 0#8 ∧ t.p2a = 0#8 ∧ t.p2b = 0#8 ∧ t.dlen = 0#8 ∧ t.cnt = 0#8 ∧ t.data = [] ∧ t.txbuf = []

theorem UnitResult.frame (h : UnitResult s i t) : UnitFrame s t := by
  cases h with
  | verify buf =>
    obtain ⟨o, c, b, st, k, info, ht, -⟩ := deliverVerified_eq { accept .verify s with rxbuf := buf } rfl rfl
    rw [← accept_par .verify s, ht]
    exact ⟨⟨rfl, rfl⟩, ⟨rfl, rfl, rfl, rfl, rfl⟩, rfl, rfl, rfl, rfl, rfl, rfl, rfl, rfl, rfl, rfl, rfl, rfl, rfl, rfl⟩
  | crc16 | crcchk | encode | stdec =>
    exact ⟨⟨rfl, rfl⟩, ⟨rfl, rfl, rfl, rfl, rfl⟩, rfl, rfl, rfl, rfl, rfl, rfl, rfl, rfl, rfl, rfl, rfl, rfl, rfl, rfl⟩

theorem UnitResult.operandsClear (h : UnitResult s i t) (hi : ∀ o p q r d, i ≠ .encode o p q r d) :
    OperandsClear t := by
  cases h with
  | encode opc p1 p2a p2b data => exact absurd rfl (hi _ _ _ _ _)
  | verify buf =>
    obtain ⟨o, c, b, st, k, info, ht, -⟩ := deliverVerified_eq { accept .verify s with rxbuf := buf } rfl rfl
    rw [← accept_par .verify s, ht]
    exact ⟨rfl, rfl, rfl, rfl, rfl, rfl, rfl, rfl⟩
  | crc16 | crcchk | stdec => exact ⟨rfl, rfl, rfl, rfl, rfl, rfl, rfl, rfl⟩

theorem UnitResult.responseClear (h : UnitResult s i t) (hi : ∀ b, i ≠ .verify b) :
    t.stb = 0#8 ∧ t.err = .none ∧ t.errInfo = 0#8 ∧ t.rxbuf = [] := by
  cases h with
  | verify buf => exact absurd rfl (hi buf)
  | crc16 | crcchk | encode | stdec => exact ⟨rfl, rfl, rfl, rfl⟩

theorem UnitResult.statusClear (h : UnitResult s i t) (hv : ∀ b, i ≠ .verify b) (hs : ∀ b, i ≠ .stdec b) :
    t.status = none := by
  cases h with
  | verify buf => exact absurd rfl (hv buf)
  | stdec b => exact absurd rfl (hs b)
  | crc16 | crcchk | encode => rfl

/-- Settles O40, from the one state each unit operation ends in: what it leaves, what stays clear, what it reports. -/
theorem unitOperationFrame : Obligations.UnitOperationFrame := by
  refine ⟨fun _ _ => rfl, fun i s t hi h => ?_⟩
  have hu : unitOperation i = true := by
    rcases hi with ⟨_, rfl⟩ | ⟨_, rfl⟩ | ⟨_, _, _, _, _, rfl⟩ | ⟨_, rfl⟩ | ⟨_, rfl⟩ <;> rfl
  have hr := unitResult_of_exec hu h
  obtain ⟨o, htrace, hreports⟩ := hr.reports
  have hcrc : (∃ b, i = .stdec b) → t.crc = 0#16 := by
    rintro ⟨b, rfl⟩
    cases hr
    rfl
  obtain ⟨hquiet, hconfig, hpwr, hwr, hrd, hin, hport, hblk, hrlen, hbus, hidlep, hwrap, hmsg, htext, hhex, hout⟩ :=
    hr.frame
  exact ⟨hquiet, hconfig, hpwr, hwr, hrd, hin, hport, hblk, hrlen, hbus, hidlep, hwrap, hmsg, htext, hhex, hout,
    hr.operandsClear, hr.responseClear, hr.statusClear, hcrc, hreports.errInfo, o, htrace, hreports.ok, hreports.error⟩

end Sys2Proof.Machine
end

section
/-! The bus address map (20_memory.md R62, R67, R70): a transport answer waits in its list, and every event a step
puts on the trace is in the map. -/

namespace Sys2Proof.Machine

variable {s t u : State}

/-- Settles O48: serving the answer is the whole step. -/
theorem transportAnswersAreQueued : Obligations.TransportAnswersAreQueued :=
  fun _ _ _ _ => ⟨fun h => step_input h, fun h => step_input h⟩

/-! ### The Command Frame in the map -/

theorem crcOk_commandFrame (opc p1 p2a p2b : Byte) (data : Bytes) :
    crcOk (commandFrame opc p1 p2a p2b data) = true := by
  rw [crcOk, commandFrame, frameBody_append _ rfl, frameCheckBytes_append _ rfl]
  exact beq_self_eq_true _

/-- A Command Frame of at most 248 data bytes may be written to the command register (R62, R102). -/
theorem writeInMap_commandFrame (s : State) (opc p1 p2a p2b : Byte) {data : Bytes} (hd : data.length ≤ 248) :
    writeInMap s s.cfgBus s.cfgDevaddr s.cfgCmdreg (commandFrame opc p1 p2a p2b data) := by
  have hlen : (commandFrame opc p1 p2a p2b data).length = 7 + data.length := by simp
  have hhead : (commandFrame opc p1 p2a p2b data).head? = some (countByte data.length) := rfl
  rw [writeInMap, hlen, hhead]
  exact ⟨rfl, .inr (.inr (.inr ⟨rfl, rfl, by omega, by omega, rfl, crcOk_commandFrame ..⟩))⟩

/-- In the invariant `X_WRCMD` stands only inside an EXECUTE, with the frame of the operands in `TXBUF` (R223, R224). -/
theorem txbuf_at_xWrcmd (h : StateInv s = true) (hx : s.seq.x = .xWrcmd) :
    s.data.length ≤ 248 ∧ s.txbuf = commandFrame s.opc s.p1 s.p2a s.p2b s.data := by
  obtain ⟨hwf, hstage⟩ := (stateInv_iff s).1 h
  refine ⟨((Memory.wf_iff s).1 hwf).1, ?_⟩
  cases hstage with
  | execute _ _ hn =>
    simp only [exchangeNested, hx, frameReady, Bool.and_eq_true, beq_iff_eq] at hn
    exact hn.2.1.1
  | quiet _ hseq => simp [hseq] at hx
  | wake | sleep | idle | prepare | format | librarySleep => simp_all

/-! ### Traces that grow by events of the map -/

/-- The map speaks of the configuration only. -/
theorem eventInMap_congr (hc : SameConfig s t) (e : Event) : eventInMap t e ↔ eventInMap s e := by
  obtain ⟨hb, hd, hs, hr, -⟩ := hc
  cases e <;> simp only [eventInMap, writeInMap, readInMap, hb, hd, hs, hr]

/-- From `s` to `t` the trace has grown by events of the map of `s`. -/
def AddsInMap (s t : State) : Prop := ∃ es, t.trace = s.trace ++ es ∧ ∀ e ∈ es, eventInMap s e

theorem AddsInMap.refl (s : State) : AddsInMap s s := ⟨[], by simp, by simp⟩

theorem AddsInMap.of_eq (h : AddsInMap s t) (hu : u.trace = t.trace := by simp) : AddsInMap s u := by
  rwa [AddsInMap, hu]

/-- One more event of the map. -/
theorem AddsInMap.add {e : Event} (h : AddsInMap s t) (he : eventInMap s e) (hu : u.trace = t.trace ++ [e]) :
    AddsInMap s u := by
  obtain ⟨es, ht, hes⟩ := h
  refine ⟨es ++ [e], by simp [hu, ht], fun e' he' => ?_⟩
  rcases List.mem_append.1 he' with he' | he'
  · exact hes e' he'
  · rwa [List.mem_singleton.1 he']

theorem AddsInMap.trans (h : AddsInMap s t) (hc : SameConfig s t) (k : AddsInMap t u) : AddsInMap s u := by
  obtain ⟨es, ht, hes⟩ := h
  obtain ⟨fs, hu, hfs⟩ := k
  refine ⟨es ++ fs, by simp [hu, ht], fun e he => ?_⟩
  rcases List.mem_append.1 he with he | he
  · exact hes e he
  · exact (eventInMap_congr hc e).1 (hfs e he)

/-- A sequencer step from `s` that moves adds events of the map of `s`. -/
def SeqResult.AddsInMap (s : State) : SeqResult → Prop
  | .moved t => Machine.AddsInMap s t
  | _ => True

/-! ### What ends an exchange or an operation adds at most the outcome -/

theorem AddsInMap.deliver (h : AddsInMap s t) (o : OpOutcome) : AddsInMap s (deliver o t) :=
  h.add (e := .outcome o) trivial rfl

theorem AddsInMap.endOperation (h : AddsInMap s t) : AddsInMap s (endOperation t) := by
  unfold Machine.endOperation
  split
  · exact h.deliver _
  · exact h.deliver _

theorem AddsInMap.enterUpdate (h : AddsInMap s t) : AddsInMap s (enterUpdate t) := by
  unfold Machine.enterUpdate
  split
  · exact h.of_eq
  · exact h.of_eq

theorem AddsInMap.libNext (h : AddsInMap s t) : (libNext t).AddsInMap s := by
  have hformat : AddsInMap s (enterFormat t) := h.of_eq
  unfold Machine.libNext
  split
  case h_1 | h_2 | h_5 => exact hformat
  case h_3 => exact h.enterUpdate
  case h_4 => exact (h.of_eq (u := { t with blk := t.blk + 1 })).enterUpdate
  case h_6 => trivial

theorem AddsInMap.leaveExecute (h : AddsInMap s t) : (leaveExecute t).AddsInMap s := by
  have hq : AddsInMap s { t with seq := ⟨t.seq.op, t.seq.l, .off, .off⟩ } := h.of_eq
  rcases leaveExecute_cases t with ⟨-, e⟩ | ⟨-, -, e⟩ | ⟨-, -, -, e⟩ | ⟨-, -, -, e⟩ <;> rw [e]
  · exact hq.endOperation
  · exact hq.libNext
  · exact hq.of_eq
  · exact hq.endOperation

theorem AddsInMap.raise (h : AddsInMap s t) (e : OpError) : (raise e t).AddsInMap s := by
  have hq : AddsInMap s (setError e t) := h.of_eq
  rcases raise_cases e t with ⟨-, er⟩ | ⟨-, er⟩ | ⟨-, -, er⟩ <;> rw [er]
  · exact hq.endOperation
  · exact hq.leaveExecute
  · exact hq.of_eq

theorem AddsInMap.wakeDone (h : AddsInMap s t) : AddsInMap s (wakeDone t) := by
  have hq : AddsInMap s { t with pwr := .awake, seq := { t.seq with w := .off } } := h.of_eq
  by_cases hx : t.seq.x = .xWake
  · rw [wakeDone_execute hx]
    exact hq.of_eq
  · rw [wakeDone_host hx]
    split
    · exact hq.endOperation
    · exact hq

theorem AddsInMap.sleepDone (h : AddsInMap s t) : AddsInMap s (sleepDone t) := by
  have hq : AddsInMap s { t with pwr := .dormant, seq := { t.seq with w := .off } } := h.of_eq
  unfold Machine.sleepDone
  dsimp only
  split
  · exact hq.endOperation
  · exact hq

theorem AddsInMap.idleDone (h : AddsInMap s t) : (idleDone t).AddsInMap s := by
  by_cases hx : t.seq.x = .xExit
  · rw [idleDone_execute hx]
    exact AddsInMap.leaveExecute h.of_eq
  · have hq : AddsInMap s { t with pwr := .idle, seq := { t.seq with w := .off } } := h.of_eq
    rw [idleDone_host hx]
    split
    · exact hq.endOperation
    · exact hq

theorem AddsInMap.finishVerify (h : AddsInMap s t) (r : VerifyResult) : (finishVerify r t).AddsInMap s := by
  by_cases hw : t.seq.w = .wVerify
  · by_cases hr : ∃ p, r = .ok p (some .afterWakeBeforeFirstCommand)
    · obtain ⟨p, rfl⟩ := hr
      rw [finishVerify_afterWake hw]
      exact h.wakeDone
    · rw [finishVerify_wakeFailed hw (not_exists.1 hr)]
      exact h.raise _
  by_cases hx : t.seq.x = .xVerify
  · cases r with
    | ok p st =>
      rw [finishVerify_execute_ok hw hx]
      exact h.of_eq
    | error e =>
      rw [finishVerify_execute_error hw hx]
      exact h.raise e
  · rw [finishVerify_unit hw hx]
    cases r with
    | ok p st => exact h.deliver _
    | error e => exact (h.of_eq (u := setError e t)).deliver _

/-! ### The sequencer's steps, row by row of the map -/

theorem busWrite_addsInMap {dev reg : Byte} {b : Bytes} {a : WrAnswer} (h : busWrite dev reg b s = some (a, t))
    (hm : writeInMap s s.cfgBus dev reg b) : AddsInMap s t := by
  rcases busWrite_cases dev reg b s with ⟨-, e⟩ | ⟨a', ws, -, e⟩ <;> cases e.symm.trans h
  exact (AddsInMap.refl s).add (e := .busWrite s.cfgBus dev reg b a) hm rfl

theorem busRead_addsInMap {dev reg : Byte} {n : Nat} {a : RdAnswer} (h : busRead dev reg n s = some (a, t))
    (hm : readInMap s s.cfgBus dev reg n) : AddsInMap s t := by
  rcases busRead_cases dev reg n s with ⟨-, e⟩ | ⟨a', rs, -, e⟩ <;> cases e.symm.trans h
  exact (AddsInMap.refl s).add (e := .busRead s.cfgBus dev reg n a) hm rfl

theorem settleDelay_addsInMap (s : State) : AddsInMap s (settleDelay s) :=
  (AddsInMap.refl s).add (e := .delay s.cfgSettle) rfl rfl

theorem verifyStep_addsInMap (s : State) : (verifyStep s).AddsInMap s := by
  have hv : AddsInMap s (verifyWrites s) := by
    obtain ⟨c, b, st, hv⟩ := verifyWrites_eq s
    rw [hv]
    exact (AddsInMap.refl s).of_eq
  exact hv.finishVerify _

theorem wWriteStep_addsInMap (s : State) : (wWriteStep s).AddsInMap s := by
  unfold wWriteStep
  split
  case h_1 => trivial
  case h_2 hans => exact (busWrite_addsInMap hans ⟨rfl, .inl ⟨rfl, rfl, rfl⟩⟩).of_eq

theorem wReadStep_addsInMap (s : State) : (wReadStep s).AddsInMap s := by
  have hm : readInMap s s.cfgBus s.cfgDevaddr Config.reg0 4 := ⟨rfl, rfl, .inl ⟨rfl, rfl⟩⟩
  unfold wReadStep
  split
  case h_1 => trivial
  case h_2 hans => exact (busRead_addsInMap hans hm).raise _
  case h_3 hans => exact (busRead_addsInMap hans hm).of_eq

theorem sWriteStep_addsInMap (s : State) : (sWriteStep s).AddsInMap s := by
  unfold sWriteStep
  split
  case h_1 => trivial
  case h_2 hans => exact (busWrite_addsInMap hans ⟨rfl, .inr (.inr (.inl ⟨rfl, rfl, .inl rfl⟩))⟩).sleepDone

theorem iWriteStep_addsInMap (s : State) : (iWriteStep s).AddsInMap s := by
  unfold iWriteStep
  split
  case h_1 => trivial
  case h_2 hans => exact (busWrite_addsInMap hans ⟨rfl, .inr (.inr (.inl ⟨rfl, rfl, .inr rfl⟩))⟩).idleDone

theorem xWrcmdStep_addsInMap (h : StateInv s = true) (hx : s.seq.x = .xWrcmd) : (xWrcmdStep s).AddsInMap s := by
  have hm : writeInMap s s.cfgBus s.cfgDevaddr s.cfgCmdreg s.txbuf := by
    obtain ⟨hd, htx⟩ := txbuf_at_xWrcmd h hx
    rw [htx]
    exact writeInMap_commandFrame s _ _ _ _ hd
  unfold xWrcmdStep
  split
  case h_1 => trivial
  case h_2 hans => exact (busWrite_addsInMap hans hm).raise _
  case h_3 hans => exact (busWrite_addsInMap hans hm).of_eq

theorem xTrigStep_addsInMap (s : State) : (xTrigStep s).AddsInMap s := by
  have hm : writeInMap s s.cfgBus s.cfgDevaddr Config.reg0 [0x00#8] := ⟨rfl, .inr (.inl ⟨rfl, rfl, rfl⟩)⟩
  unfold xTrigStep
  split
  case h_1 => trivial
  case h_2 hans => exact (busWrite_addsInMap hans hm).raise _
  case h_3 hans => exact (busWrite_addsInMap hans hm).of_eq

theorem xRdlenStep_addsInMap (s : State) : (xRdlenStep s).AddsInMap s := by
  have hm : readInMap s s.cfgBus s.cfgDevaddr s.cfgCmdreg 1 := ⟨rfl, rfl, .inr ⟨rfl, by omega⟩⟩
  unfold xRdlenStep
  split
  case h_1 | h_3 => trivial
  case h_2 hans => exact (busRead_addsInMap hans hm).raise _
  case h_4 hans => exact (busRead_addsInMap hans hm).of_eq

theorem xRdfrmStep_addsInMap (s : State) : (xRdfrmStep s).AddsInMap s := by
  have hm : readInMap s s.cfgBus s.cfgDevaddr s.cfgCmdreg s.rlen.toNat := ⟨rfl, rfl, .inr ⟨rfl, by omega⟩⟩
  unfold xRdfrmStep
  split
  case h_1 => trivial
  case h_2 hans => exact (busRead_addsInMap hans hm).raise _
  case h_3 hans => exact (busRead_addsInMap hans hm).of_eq

theorem lStep_addsInMap (s : State) : (lStep s).AddsInMap s := by
  cases hl : s.seq.l <;> simp only [lStep, hl]
  case lPrep =>
    cases hm : messageBytes s with
    | none =>
      rw [lPrepStep_none hm]
      exact (AddsInMap.refl s).raise _
    | some m =>
      rw [lPrepStep_some hm]
      exact (AddsInMap.refl s).of_eq
  case lFormat =>
    cases ho : outputText s with
    | ok text =>
      rw [lFormatStep_ok ho]
      exact (AddsInMap.refl s).of_eq
    | error f =>
      rw [lFormatStep_error ho]
      trivial
  all_goals trivial

theorem xStep_addsInMap (h : StateInv s = true) : (xStep s).AddsInMap s := by
  have hs : AddsInMap s s := .refl s
  cases hx : s.seq.x <;> simp only [xStep, hx]
  case off => exact lStep_addsInMap s
  case xWake =>
    unfold xWakeStep
    split
    · trivial
    · exact hs.of_eq
  case xArm => exact hs.of_eq (by split <;> rfl)
  case xEncode => exact hs.of_eq
  case xWrcmd => exact xWrcmdStep_addsInMap h hx
  case xSettle => exact (settleDelay_addsInMap s).of_eq
  case xTrig => exact xTrigStep_addsInMap s
  case xRdlen => exact xRdlenStep_addsInMap s
  case xRdfrm => exact xRdfrmStep_addsInMap s
  case xVerify => exact verifyStep_addsInMap s
  case xExit =>
    unfold xExitStep
    split
    · trivial
    · exact hs.leaveExecute

theorem seqStep_addsInMap (h : StateInv s = true) : (seqStep s).AddsInMap s := by
  cases hb : s.busy
  · rw [seqStep_not_busy hb]
    trivial
  rw [seqStep_busy hb]
  cases hw : s.seq.w <;> simp only [wStep, hw]
  case off => exact xStep_addsInMap h
  case wWrite => exact wWriteStep_addsInMap s
  case wSettle => exact (settleDelay_addsInMap s).of_eq
  case wRead => exact wReadStep_addsInMap s
  case wVerify => exact verifyStep_addsInMap s
  case sWrite => exact sWriteStep_addsInMap s
  case iWrite => exact iWriteStep_addsInMap s

/-! ### A whole operation, and a step of the machine -/

/-- What a run has and every sequencer step of it keeps: it is in the invariant, with the configuration of its
start `s`, and its events so far are in the map. -/
structure RunsInMap (s t : State) : Prop where
  inv : StateInv t = true
  frame : Frame s t
  events : AddsInMap s t

theorem seqStep_frame (h : seqStep s = .moved t) : Frame s t := ownStep_frame (by simp [ownStep, ofSeq, h])

theorem RunsInMap.seqStep (h : RunsInMap s t) (hmove : seqStep t = .moved u) : RunsInMap s u := by
  have hsound := seqStep_sound h.inv
  have hadds := seqStep_addsInMap h.inv
  rw [hmove] at hsound hadds
  exact ⟨hsound, h.frame.trans (seqStep_frame hmove), h.events.trans h.frame.config hadds⟩

theorem RunsInMap.runOperation (h : RunsInMap s t) (hrun : runOperation t = .next u) : AddsInMap s u := by
  unfold Machine.runOperation at hrun
  split at hrun
  · exact (runSeq_induct (P := RunsInMap s) (fun _ _ => .seqStep) _ _ _ h hrun).events
  · cases hrun
    exact h.events

/-- An operation that is accepted stands at its first step with nothing on the trace yet (R43). -/
theorem FirstStep.runsInMap {i : Instr} (h : FirstStep s i u) : RunsInMap s u := by
  have hframe : Frame s u := by cases h <;> exact .of_eq
  have htrace : u.trace = s.trace := by cases h <;> rfl
  exact ⟨h.inv, hframe, (AddsInMap.refl s).of_eq htrace⟩

theorem serveRequest_addsInMap {bytes : Bytes} (h : serveRequest bytes s = .next t) : AddsInMap s t := by
  rcases serveRequest_cases bytes s with ⟨i, -, hi, e⟩ | ⟨why, -, e⟩ <;> rw [e] at h
  · rcases exec_request_cases hi s with ⟨r, e⟩ | ⟨-, u, hu, e⟩ | ⟨-, u, hu, e⟩ <;> rw [e] at h
    · cases h
    · cases h
      obtain ⟨o, ht, -⟩ := hu.reports
      exact (AddsInMap.refl s).add (e := .outcome o) trivial ht
    · exact hu.runsInMap.runOperation h
  · split at h <;> cases h

theorem ownStep_addsInMap (hinv : StateInv s = true) (h : ownStep s = .next t) : AddsInMap s t := by
  have hadds := seqStep_addsInMap hinv
  rcases ownStep_cases s with ⟨u, hq, e⟩ | ⟨f, -, e⟩ | ⟨-, e⟩ <;> cases e.symm.trans h
  · rwa [hq] at hadds
  · exact .refl s

theorem serveInput_addsInMap {i : Input} (hinv : StateInv s = true) (h : serveInput i s = .next t) : AddsInMap s t := by
  cases i with
  | request bytes => exact serveRequest_addsInMap h
  | pass => exact ownStep_addsInMap hinv h
  | regRead | writeAnswer | readAnswer => cases h; exact (AddsInMap.refl s).of_eq
  | regWrite c v => rcases portWrite_next h with ⟨-, rfl⟩ | ⟨-, rfl⟩ <;> exact (AddsInMap.refl s).of_eq

/-- Settles O52: AFC's own step and a request's run add events of the map only, and no other input adds any. -/
theorem busEventsStayInTheAddressMap : Obligations.BusEventsStayInTheAddressMap := by
  intro s t hinv h
  rcases step_cases s with ⟨-, e⟩ | ⟨i, rest, -, e⟩ <;> rw [e] at h
  · exact ownStep_addsInMap hinv h
  · have hs : SameConfig s { s with inputs := rest } := ⟨rfl, rfl, rfl, rfl, rfl⟩
    exact ((AddsInMap.refl s).of_eq).trans hs (serveInput_addsInMap (by exact hinv) h)

end Sys2Proof.Machine
end

section
/-! The encoder and the decoder are each other's inverse on the well-formed rows (30_encoding.md R101, R110, R118, R126;
42_status_decoder.md R181; 45_command_library.md R248), channel by channel. -/

namespace Sys2Proof

/-- On the channel `ch` the bytes are the encoding of the well-formed row `i`. -/
def Encodes (par : Params) (ch : Channel) (bytes : Bytes) (i : Instr) : Prop :=
  encode par i = bytes ∧ channelOf i = ch ∧ wellFormed par i = true

/-! ### Frames with a checksum (R103, R166) -/

/-- A buffer with a good checksum is its body and the checksum of its body. -/
theorem frameBody_append_crc16 {buf : Bytes} (h : crcOk buf = true) : frameBody buf ++ crc16 (frameBody buf) = buf := by
  rw [crcOk, beq_iff_eq] at h
  rw [h]
  exact List.take_append_drop _ _

/-! ### Command Frames (R101, R105) -/

/-- The decoder reads the fields of a Command Frame, whatever row they are. -/
theorem decodeCommand_commandFrame (par : Params) (opc p1 p2a p2b : Byte) {data : Bytes}
    (hd : data.length ≤ Config.maxData) :
    decodeCommand par (commandFrame opc p1 p2a p2b data) = .ok (classifyCommand par opc p1 p2a p2b data) := by
  have hcrc : crcOk (commandFrame opc p1 p2a p2b data) = true := Machine.crcOk_commandFrame ..
  simp only [commandFrame, commandBody, List.cons_append, List.nil_append] at hcrc ⊢
  simp [decodeCommand, hcrc, hd]

/-- What the Command Frame decoder takes is a Command Frame with at most 248 data bytes. -/
theorem commandFrame_of_decodeCommand {par : Params} {frame : Bytes} {i : Instr} (h : decodeCommand par frame = .ok i) :
    ∃ opc p1 p2a p2b data, data.length ≤ Config.maxData ∧ frame = commandFrame opc p1 p2a p2b data ∧
      i = classifyCommand par opc p1 p2a p2b data := by
  unfold decodeCommand at h
  split at h
  case h_2 => cases h
  case h_1 count opc p1 p2a p2b rest =>
    split at h
    · cases h
    next hlen =>
    split at h
    · cases h
    next hmax =>
    split at h
    · cases h
    next hcount =>
    split at h
    · cases h
    next hcrc =>
    have hdata : (rest.take (rest.length - 2)).length = rest.length - 2 := by simp
    have hbody : frameBody (count :: opc :: p1 :: p2a :: p2b :: rest) =
        commandBody opc p1 p2a p2b (rest.take (rest.length - 2)) := by
      rw [commandBody, hdata, ← not_not.1 hcount]
      have : rest.length + 5 - 2 = rest.length - 2 + 5 := by omega
      simp [frameBody, this]
    cases h
    refine ⟨opc, p1, p2a, p2b, _, by omega, ?_, rfl⟩
    rw [commandFrame, ← hbody]
    exact (frameBody_append_crc16 (Bool.eq_true_of_not_eq_false hcrc)).symm

/-- The rows of R105 by the fields of their frames. -/
inductive CommandRow (par : Params) : Byte → Byte → Byte → Byte → Bytes → Instr → Prop
  | readId : CommandRow par par.opcRead Config.readP1 0#8 0#8 [] .readId
  | selftestAll : CommandRow par par.opcSelftest Config.selftestP1 0#8 0#8 [] .selftestAll
  | shaStart : CommandRow par par.opcSha par.shaStart 0#8 0#8 [] .shaStart
  | shaUpdate (block : Bytes) (hl : block.length = Config.block) :
    CommandRow par par.opcSha par.shaUpdate 0x40#8 0#8 block (.shaUpdate block)
  | shaEnd (tail : Bytes) (hl : tail.length < Config.block) :
    CommandRow par par.opcSha par.shaEnd (p2Low tail.length) 0#8 tail (.shaEnd tail)
  | generic (opc p1 p2a p2b : Byte) (data : Bytes) :
    CommandRow par opc p1 p2a p2b data (.cmdGeneric opc p1 p2a p2b data)

theorem commandRow_classifyCommand (par : Params) (opc p1 p2a p2b : Byte) (data : Bytes) :
    CommandRow par opc p1 p2a p2b data (classifyCommand par opc p1 p2a p2b data) := by
  unfold classifyCommand
  split
  next hf => obtain ⟨rfl, rfl, rfl, rfl, rfl⟩ := hf; exact .readId
  split
  next hf => obtain ⟨rfl, rfl, rfl, rfl, rfl⟩ := hf; exact .selftestAll
  split
  next hf => obtain ⟨rfl, rfl, rfl, rfl, rfl⟩ := hf; exact .shaStart
  split
  next hf => obtain ⟨rfl, rfl, rfl, rfl, hl⟩ := hf; exact .shaUpdate data hl
  split
  next hf => obtain ⟨rfl, rfl, rfl, rfl, hl⟩ := hf; exact .shaEnd data hl
  exact .generic opc p1 p2a p2b data

/-- A Command Frame is the encoding of the row its fields are, and that row is well-formed. -/
theorem encodes_classifyCommand (par : Params) (opc p1 p2a p2b : Byte) {data : Bytes}
    (hd : data.length ≤ Config.maxData) :
    Encodes par .commandFrame (commandFrame opc p1 p2a p2b data) (classifyCommand par opc p1 p2a p2b data) := by
  have hrow := commandRow_classifyCommand par opc p1 p2a p2b data
  generalize hi : classifyCommand par opc p1 p2a p2b data = i at hrow ⊢
  cases hrow with
  | readId | selftestAll | shaStart => exact ⟨rfl, rfl, beq_iff_eq.2 hi⟩
  | shaUpdate _ hl | shaEnd _ hl => exact ⟨rfl, rfl, by simp [wellFormed, hl, hi]⟩
  | generic => exact ⟨rfl, rfl, by simp [wellFormed, hd, hi]⟩

theorem encodes_of_decodeCommand {par : Params} {frame : Bytes} {i : Instr} (h : decodeCommand par frame = .ok i) :
    Encodes par .commandFrame frame i := by
  obtain ⟨opc, p1, p2a, p2b, data, hd, rfl, rfl⟩ := commandFrame_of_decodeCommand h
  exact encodes_classifyCommand par opc p1 p2a p2b hd

/-! ### Response Frames (R110, R113) -/

/-- The body of a received buffer: the count byte and the payload. -/
theorem frameBody_eq_cons_payloadOf {buf : Bytes} (h : 3 ≤ buf.length) :
    frameBody buf = buf.getD 0 0#8 :: payloadOf buf := by
  match buf, h with
  | count :: rest, h =>
    have : rest.length + 1 - 2 = rest.length - 2 + 1 := by simp at h; omega
    simp [frameBody, payloadOf, this]

/-- The payload of a 4-byte frame is its status byte (R167). -/
theorem payloadOf_of_length_four {buf : Bytes} (h : buf.length = 4) : payloadOf buf = [buf.getD 1 0#8] := by
  match buf, h with
  | [_, _, _, _], _ => rfl

@[simp] theorem payloadOf_responseFrame (count : Byte) (payload : Bytes) :
    payloadOf (responseFrame count payload) = payload := by
  simp [payloadOf, responseFrame]

@[simp] theorem responseFrame_length (count : Byte) (payload : Bytes) :
    (responseFrame count payload).length = payload.length + 3 := by
  simp [responseFrame]

theorem crcOk_responseFrame (count : Byte) (payload : Bytes) : crcOk (responseFrame count payload) = true := by
  rw [crcOk, responseFrame, frameBody_append _ rfl, frameCheckBytes_append _ rfl]
  exact beq_self_eq_true _

/-- A buffer with a good checksum is the Response Frame of its first byte and its payload. -/
theorem responseFrame_payloadOf {buf : Bytes} (hcrc : crcOk buf = true) (h : 4 ≤ buf.length) :
    responseFrame (buf.getD 0 0#8) (payloadOf buf) = buf := by
  have hbody := frameBody_eq_cons_payloadOf (buf := buf) (by omega)
  rw [responseFrame, List.cons_append, ← List.cons_append, ← hbody]
  exact frameBody_append_crc16 hcrc

/-- What the checks find in a buffer of at least 4 bytes with a good checksum: one status byte, or a longer payload. -/
theorem checkResponse_of_crcOk {buf : Bytes} (hcrc : crcOk buf = true) (h : 4 ≤ buf.length) :
    checkResponse buf = if buf.length = 4 then .status (buf.getD 1 0#8) else .data (payloadOf buf) := by
  have hlen : ¬ buf.length < Config.minResp := Nat.not_lt.2 h
  simp only [checkResponse, if_neg hlen, hcrc, Bool.true_eq_false, if_false]

theorem decodeResponse_responseFrame_one (count b : Byte) :
    decodeResponse (responseFrame count [b]) = .ok (.respStatus count b) := by
  rw [decodeResponse, checkResponse_of_crcOk (crcOk_responseFrame ..) (by simp)]
  rfl

theorem decodeResponse_responseFrame (count : Byte) {payload : Bytes} (h2 : 2 ≤ payload.length)
    (hmax : payload.length ≤ 252) :
    decodeResponse (responseFrame count payload) = .ok (.respData count payload) := by
  have hlong : ¬ 255 < (responseFrame count payload).length := by simp; omega
  have hne : (responseFrame count payload).length ≠ 4 := by simp; omega
  rw [decodeResponse, checkResponse_of_crcOk (crcOk_responseFrame ..) (by simp; omega), if_neg hlong, if_neg hne,
    payloadOf_responseFrame]
  rfl

/-- What the checks of a response let through has at least 4 bytes and a good checksum. -/
theorem checked_of_decodeResponse {buf : Bytes} {i : Instr} (h : decodeResponse buf = .ok i) :
    crcOk buf = true ∧ 4 ≤ buf.length ∧ buf.length ≤ 255 := by
  unfold decodeResponse at h
  split at h
  · cases h
  next hmax =>
  by_cases hmin : buf.length < Config.minResp
  · simp [checkResponse, hmin] at h
  by_cases hcrc : crcOk buf = false
  · simp [checkResponse, hmin, hcrc] at h
  exact ⟨Bool.eq_true_of_not_eq_false hcrc, Nat.not_lt.1 hmin, Nat.not_lt.1 hmax⟩

theorem encodes_of_decodeResponse {par : Params} {buf : Bytes} {i : Instr} (h : decodeResponse buf = .ok i) :
    Encodes par .responseFrame buf i := by
  obtain ⟨hcrc, hmin, hmax⟩ := checked_of_decodeResponse h
  have hframe := responseFrame_payloadOf hcrc hmin
  have hlen : (payloadOf buf).length + 3 = buf.length := by rw [← responseFrame_length (buf.getD 0 0#8), hframe]
  rw [decodeResponse, if_neg (Nat.not_lt.2 hmax), checkResponse_of_crcOk hcrc hmin] at h
  by_cases hfour : buf.length = 4
  · rw [if_pos hfour] at h
    cases h
    rw [payloadOf_of_length_four hfour] at hframe
    exact ⟨hframe, rfl, rfl⟩
  · rw [if_neg hfour] at h
    cases h
    refine ⟨hframe, rfl, ?_⟩
    simp only [wellFormed, Bool.and_eq_true, decide_eq_true_eq]
    omega

/-! ### Control writes, status bytes and mask bytes (R118, R181, R248) -/

theorem encodes_of_decodeControl {par : Params} {loc : BusLoc} {b : Byte} {i : Instr}
    (h : decodeControl loc b = .ok i) : Encodes par (.controlWrite loc) [b] i := by
  cases loc <;> simp only [decodeControl] at h
  case wakeReg0 | devReg0 =>
    split at h <;> cases h
    next hb => subst hb; exact ⟨rfl, rfl, rfl⟩
  case devCommand =>
    split at h
    next hb => cases h; subst hb; exact ⟨rfl, rfl, rfl⟩
    split at h <;> cases h
    next hb => subst hb; exact ⟨rfl, rfl, rfl⟩

/-- A status that is known has the byte it was decoded from. -/
theorem statusByte_stdec {m : StatusMap} {b : Byte} (h : stdec m b ≠ .unknown) : statusByte m (stdec m b) = some b := by
  revert h
  simp only [stdec]
  repeat' split
  all_goals simp_all [statusByte]

/-- Every byte is the encoding of its status row. -/
theorem encodes_decodeStatus (par : Params) (b : Byte) : Encodes par .statusByte [b] (decodeStatus par b) := by
  have hb := statusByte_stdec (m := par.statusMap) (b := b)
  unfold decodeStatus
  cases hst : stdec par.statusMap b <;> simp [hst, statusByte] at hb ⊢
  case unknown => exact ⟨rfl, rfl, beq_iff_eq.2 hst⟩
  case success | checksumOrVerifyMiscompare => subst hb; exact ⟨rfl, rfl, rfl⟩
  all_goals subst hb; exact ⟨rfl, rfl, beq_iff_eq.2 hst⟩

theorem encodes_maskRow (par : Params) (c : Capability) {b : Byte} (h : capabilityFailed par.stBits b c = true) :
    Encodes par (.selfTestMask c) [b] (maskRow c b) := by
  cases c <;> exact ⟨rfl, rfl, h⟩

theorem eq_of_oneByte {bytes : Bytes} {k : Byte → Except Reject Instr} {i : Instr} (h : oneByte bytes k = .ok i) :
    ∃ b, bytes = [b] ∧ k b = .ok i := by
  unfold oneByte at h
  split at h
  · exact ⟨_, rfl, h⟩
  · cases h

/-! ### Requests (R126, R130) -/

@[simp] theorem headerOp_header (op flags : BitVec 4) : headerOp (header op flags) = op := by
  decide +revert

@[simp] theorem headerFlags_header (op flags : BitVec 4) : headerFlags (header op flags) = flags := by
  decide +revert

theorem exists_header (h : Byte) : ∃ op flags, h = header op flags :=
  ⟨headerOp h, headerFlags h, by decide +revert⟩

variable {par : Params} {hd : Byte} {op flags : BitVec 4} {ops : Bytes} {i : Instr}

theorem encodes_of_plainRequest {r : Except Reject Instr}
    (hr : r = .ok i → Encodes par .hostRequest (header op 0#4 :: ops) i) (h : plainRequest flags r = .ok i) :
    Encodes par .hostRequest (header op flags :: ops) i := by
  unfold plainRequest at h
  split at h
  next hf => subst hf; exact hr h
  · cases h

theorem encodes_of_noOperands {j : Instr} (hj : Encodes par .hostRequest [hd] j) (h : noOperands ops j = .ok i) :
    Encodes par .hostRequest (hd :: ops) i := by
  cases ops <;> cases h
  exact hj

theorem encodes_of_oneOperand {k : Byte → Instr} (hk : ∀ b, Encodes par .hostRequest [hd, b] (k b))
    (h : oneOperand ops k = .ok i) : Encodes par .hostRequest (hd :: ops) i := by
  unfold oneOperand at h
  split at h <;> cases h
  exact hk _

theorem encodes_of_commandOperands {k : Byte → Byte → Byte → Byte → Bytes → Instr}
    (hk : ∀ opc p1 p2a p2b data, data.length ≤ Config.maxData →
      Encodes par .hostRequest (hd :: opc :: p1 :: p2a :: p2b :: data) (k opc p1 p2a p2b data))
    (h : commandOperands ops k = .ok i) : Encodes par .hostRequest (hd :: ops) i := by
  unfold commandOperands at h
  split at h
  · split at h <;> cases h
    next hlen => exact hk _ _ _ _ _ hlen
  · cases h

/-- The flags of EXECUTE: bit 0 alone (R126). -/
theorem executeFlags_eq {flags : BitVec 4} (h : flags &&& 0b1110#4 = 0#4) :
    (if flags.getLsbD 0 then 0b0001#4 else 0b0000#4) = flags := by
  revert flags
  decide

/-- The flags of SHA256: bit 1 alone (R126). -/
theorem sha256Flags_eq {flags : BitVec 4} (h : flags &&& 0b1101#4 = 0#4) :
    (if flags.getLsbD 1 then 0b0010#4 else 0b0000#4) = flags := by
  revert flags
  decide

/-- A request that decodes is the encoding of its row. -/
theorem encodes_of_decodeRequest {bytes : Bytes} (h : decodeRequest bytes = .ok i) :
    Encodes par .hostRequest bytes i := by
  cases bytes with
  | nil => cases h
  | cons hd ops =>
  obtain ⟨op, flags, rfl⟩ := exists_header hd
  simp only [decodeRequest, headerOp_header, headerFlags_header] at h
  split at h
  next hop =>
    obtain rfl : op = 0x0#4 := BitVec.eq_of_toNat_eq hop
    cases h; exact ⟨rfl, rfl, rfl⟩
  next hop =>
    obtain rfl : op = 0x1#4 := BitVec.eq_of_toNat_eq hop
    refine encodes_of_plainRequest (fun h => ?_) h
    cases h; exact ⟨rfl, rfl, rfl⟩
  next hop =>
    obtain rfl : op = 0x2#4 := BitVec.eq_of_toNat_eq hop
    refine encodes_of_plainRequest (fun h => ?_) h
    split at h <;> cases h
    next hlen => exact ⟨rfl, rfl, decide_eq_true hlen⟩
  next hop =>
    obtain rfl : op = 0x3#4 := BitVec.eq_of_toNat_eq hop
    refine encodes_of_plainRequest (encodes_of_commandOperands fun _ _ _ _ _ hlen => ?_) h
    exact ⟨rfl, rfl, decide_eq_true hlen⟩
  next hop =>
    obtain rfl : op = 0x4#4 := BitVec.eq_of_toNat_eq hop
    refine encodes_of_plainRequest (fun h => ?_) h
    cases h; exact ⟨rfl, rfl, rfl⟩
  next hop =>
    obtain rfl : op = 0x5#4 := BitVec.eq_of_toNat_eq hop
    exact encodes_of_plainRequest (encodes_of_oneOperand fun _ => ⟨rfl, rfl, rfl⟩) h
  next hop =>
    obtain rfl : op = 0x6#4 := BitVec.eq_of_toNat_eq hop
    exact encodes_of_plainRequest (encodes_of_noOperands ⟨rfl, rfl, rfl⟩) h
  next hop =>
    obtain rfl : op = 0x7#4 := BitVec.eq_of_toNat_eq hop
    exact encodes_of_plainRequest (encodes_of_noOperands ⟨rfl, rfl, rfl⟩) h
  next hop =>
    obtain rfl : op = 0x8#4 := BitVec.eq_of_toNat_eq hop
    exact encodes_of_plainRequest (encodes_of_noOperands ⟨rfl, rfl, rfl⟩) h
  next hop =>
    obtain rfl : op = 0x9#4 := BitVec.eq_of_toNat_eq hop
    split at h
    next hf =>
      refine encodes_of_commandOperands (fun _ _ _ _ _ hlen => ?_) h
      exact ⟨by rw [encode, executeFlags_eq hf], rfl, decide_eq_true hlen⟩
    · cases h
  next hop =>
    obtain rfl : op = 0xA#4 := BitVec.eq_of_toNat_eq hop
    exact encodes_of_plainRequest (encodes_of_noOperands ⟨rfl, rfl, rfl⟩) h
  next hop =>
    obtain rfl : op = 0xB#4 := BitVec.eq_of_toNat_eq hop
    exact encodes_of_plainRequest (encodes_of_noOperands ⟨rfl, rfl, rfl⟩) h
  next hop =>
    obtain rfl : op = 0xC#4 := BitVec.eq_of_toNat_eq hop
    split at h <;> cases h
    next hf => exact ⟨by rw [encode, sha256Flags_eq hf], rfl, rfl⟩
  next hop =>
    obtain rfl : op = 0xD#4 := BitVec.eq_of_toNat_eq hop
    cases h; exact ⟨rfl, rfl, rfl⟩
  next hop =>
    obtain rfl : op = 0xE#4 := BitVec.eq_of_toNat_eq hop
    cases h; exact ⟨rfl, rfl, rfl⟩
  next =>
    have hlt : op.toNat < 16 := op.isLt
    have hop : op.toNat = 15 := by grind
    obtain rfl : op = 0xF#4 := BitVec.eq_of_toNat_eq hop
    cases h; exact ⟨rfl, rfl, rfl⟩

/-! ### The two inverse laws -/

/-- Settles O59, channel by channel: every decoder takes only encodings of well-formed rows. -/
theorem encodeOfDecode : Obligations.EncodeOfDecode := by
  intro par ch bytes i h
  change Encodes par ch bytes i
  cases ch with
  | hostRequest => exact encodes_of_decodeRequest h
  | commandFrame => exact encodes_of_decodeCommand h
  | responseFrame => exact encodes_of_decodeResponse h
  | controlWrite loc =>
    obtain ⟨b, rfl, hb⟩ := eq_of_oneByte h
    exact encodes_of_decodeControl hb
  | statusByte =>
    obtain ⟨b, rfl, hb⟩ := eq_of_oneByte h
    cases hb
    exact encodes_decodeStatus par b
  | selfTestMask c =>
    obtain ⟨b, rfl, hb⟩ := eq_of_oneByte h
    split at hb <;> cases hb
    exact encodes_maskRow par c ‹_›

/-- Decoding the encoding of a request gives the request back. -/
theorem decodeRequest_encode (hi : channelOf i = .hostRequest) (h : wellFormed par i = true) :
    decodeRequest (encode par i) = .ok i := by
  cases i
  case crcchk | encode => exact if_pos (of_decide_eq_true h)
  case execute w opc p1 p2a p2b data => cases w <;> exact if_pos (of_decide_eq_true h)
  case sha256 isHex text => cases isHex <;> rfl
  case crc16 | verify | stdec | wake | sleep | idle | idread | selftest => rfl
  case reservedOp0 | reservedOpD | reservedOpE | reservedOpF => simp [encode, decodeRequest]
  all_goals cases hi

/-- Settles O58: a frame decodes to the row its fields are, which for a well-formed row is that row; the other channels
byte by byte. -/
theorem decodeOfEncode : Obligations.DecodeOfEncode := by
  intro par i h
  cases i
  case readId | selftestAll | shaStart =>
    exact (decodeCommand_commandFrame par _ _ _ _ (Nat.zero_le _)).trans (congrArg _ (beq_iff_eq.1 h))
  case cmdGeneric opc p1 p2a p2b data =>
    simp only [wellFormed, Bool.and_eq_true, decide_eq_true_eq, beq_iff_eq] at h
    exact (decodeCommand_commandFrame par _ _ _ _ h.1).trans (congrArg _ h.2)
  case shaUpdate block =>
    simp only [wellFormed, Bool.and_eq_true, beq_iff_eq] at h
    exact (decodeCommand_commandFrame par _ _ _ _ (by rw [h.1]; decide)).trans (congrArg _ h.2)
  case shaEnd tail =>
    simp only [wellFormed, Bool.and_eq_true, decide_eq_true_eq, beq_iff_eq] at h
    exact (decodeCommand_commandFrame par _ _ _ _ (h.1.le.trans (by decide))).trans (congrArg _ h.2)
  case respStatus count b => exact decodeResponse_responseFrame_one count b
  case respData count payload =>
    simp only [wellFormed, Bool.and_eq_true, decide_eq_true_eq] at h
    exact decodeResponse_responseFrame count h.1 h.2
  case wakeWr | sleepWr | idleWr | trigWr => rfl
  case statusSuccess | statusChecksumOrVerifyMiscompare => rfl
  case stFailSha | stFailAes | stFailEcdh | stFailEcdsaSign | stFailEcdsaVerify | stFailRngDrbg => exact if_pos h
  case statusParseError | statusEccFault | statusSelfTestError | statusHealthTestError | statusExecutionError |
      statusAfterWakeBeforeFirstCommand | statusWatchdogExpiringSoon | statusCommunicationError | statusUnknown =>
    have hst := beq_iff_eq.1 h
    simp [decode, channelOf, encode, oneByte, decodeStatus, hst]
  all_goals exact decodeRequest_encode rfl h

end Sys2Proof
end

section
/-! The host's request channel and register port at a step of the machine (30_encoding.md R126, R130, R132;
10_state.md R41). -/

namespace Sys2Proof

@[simp] theorem header_toNat_div (op flags : BitVec 4) : (header op flags).toNat / 16 = op.toNat := by
  decide +revert

@[simp] theorem header_toNat_mod (op flags : BitVec 4) : (header op flags).toNat % 16 = flags.toNat := by
  decide +revert

/-- The grounds of R130 on which the bytes of a request are refused: a reserved `op`, a flag that R126 shows as 0, or
operand bytes that the operation does not take. -/
def NoMeaning (header : Byte) (ops : Bytes) : Prop :=
  let op := header.toNat / 16
  let flags := header.toNat % 16
  op ∈ [0x0, 0xD, 0xE, 0xF] ∨ (op ∉ [0x9, 0xC] ∧ flags ≠ 0) ∨ (op = 0x9 ∧ flags ∉ [0, 1]) ∨
    (op = 0xC ∧ flags ∉ [0, 2]) ∨ (op = 0x2 ∧ ops.length < 2) ∨ (op ∈ [0x3, 0x9] ∧ ops.length < 4) ∨
    (op ∈ [0x3, 0x9] ∧ 4 + 248 < ops.length) ∨ (op = 0x5 ∧ ops.length ≠ 1) ∨
    (op ∈ [0x6, 0x7, 0x8, 0xA, 0xB] ∧ ops ≠ [])

/-- The four reserved codes of R130. -/
def reservedRow : Instr → Bool
  | .reservedOp0 _ _ => true
  | .reservedOpD _ _ => true
  | .reservedOpE _ _ => true
  | .reservedOpF _ _ => true
  | _ => false

/-- The encoding of any other row has the `op`, the flags and the operand bytes that R126 gives it. -/
theorem reservedRow_of_encodes {par : Params} {hd : Byte} {ops : Bytes} {i : Instr}
    (hi : Encodes par .hostRequest (hd :: ops) i) (h : NoMeaning hd ops) : reservedRow i = true := by
  obtain ⟨he, hc, hw⟩ := hi
  cases i
  case reservedOp0 | reservedOpD | reservedOpE | reservedOpF => rfl
  case execute w _ _ _ _ _ =>
    cases he
    cases w <;> simp [NoMeaning, wellFormed, Config.maxData] at h hw <;> omega
  case sha256 isHex _ =>
    cases he
    cases isHex <;> simp [NoMeaning] at h
  case crc16 | verify | stdec | wake | sleep | idle | idread | selftest =>
    cases he
    simp [NoMeaning] at h
  case crcchk | encode =>
    cases he
    simp [NoMeaning, wellFormed, Config.maxData] at h hw
    omega
  all_goals cases hc

/-- Settles O60, word by word. -/
theorem writtenOutWordsDecode : Obligations.WrittenOutWordsDecode := by
  refine ⟨?_, ?_, ?_, ?_, ?_, ?_, ?_, ?_, ?_⟩ <;> decide +kernel

end Sys2Proof

namespace Sys2Proof.Machine

/-! ### Requests (R126, R130) -/

theorem exec_reservedRow {i : Instr} (h : reservedRow i = true) (s : State) :
    exec i s = .refused .reservedOperation := by
  cases i
  case reservedOp0 | reservedOpD | reservedOpE | reservedOpF => rfl
  all_goals cases h

theorem step_request {s : State} {bytes : Bytes} {rest : List Input} (h : s.inputs = .request bytes :: rest) :
    step s = serveRequest bytes { s with inputs := rest } := step_input h

/-- A request that does not decode is refused, with an operation in progress or not. -/
theorem serveRequest_error {s : State} {bytes : Bytes} {why : Reject} (h : decodeRequest bytes = .error why) :
    ∃ r, serveRequest bytes s = .refused r := by
  rcases serveRequest_cases bytes s with ⟨i, hi, -, -⟩ | ⟨why', -, e⟩
  · cases hi.symm.trans h
  · cases hb : s.busy
    · exact ⟨.badRequest why', by simp [e, hb]⟩
    · exact ⟨.busy, by simp [e, hb]⟩

/-- Where R130 gives the bytes no meaning they do not decode, or they are a reserved row. -/
theorem serveRequest_noMeaning {s : State} {hd : Byte} {ops : Bytes} (h : NoMeaning hd ops) :
    ∃ r, serveRequest (hd :: ops) s = .refused r := by
  rcases serveRequest_cases (hd :: ops) s with ⟨i, hi, -, e⟩ | ⟨why, hw, -⟩
  · exact ⟨_, e.trans (exec_reservedRow (reservedRow_of_encodes (encodes_of_decodeRequest (par := s.par) hi) h) s)⟩
  · exact serveRequest_error hw

theorem exec_dataTooLong {s : State} (hb : s.busy = false) (w : Bool) (opc p1 p2a p2b : Byte) {data : Bytes}
    (hd : 248 < data.length) :
    exec (.encode opc p1 p2a p2b data) s = .refused (.badRequest .dataTooLong) ∧
      exec (.execute w opc p1 p2a p2b data) s = .refused (.badRequest .dataTooLong) ∧
      exec (.cmdGeneric opc p1 p2a p2b data) s = .refused (.badRequest .dataTooLong) := by
  have hmax : ¬ data.length ≤ Config.maxData := Nat.not_le.2 hd
  exact ⟨(whenIdle_not_busy hb _).trans (if_neg hmax), (whenIdle_not_busy hb _).trans (if_neg hmax), if_neg hmax⟩

/-- Settles O43: such a request does not decode, or it decodes to a reserved row. -/
theorem requestsWithoutMeaningAreRefused : Obligations.RequestsWithoutMeaningAreRefused := by
  refine ⟨fun _ _ _ => ⟨rfl, rfl, rfl, rfl⟩,
    fun w opc p1 p2a p2b data s hb hd => exec_dataTooLong hb w opc p1 p2a p2b hd, ?_, ?_, ?_⟩
  · intro bytes why rest s hin hw
    rw [step_request hin]
    exact serveRequest_error hw
  · intro rest s hin
    rw [step_request hin]
    exact serveRequest_error rfl
  · intro hd ops rest s hin op flags h
    rw [step_request hin]
    exact serveRequest_noMeaning h

/-- Settles O46: serving the request is the whole step. -/
theorem stepRunsTheDecodedRequest : Obligations.StepRunsTheDecodedRequest := by
  intro i bytes rest s hin hi
  rw [step_request hin]
  simp only [serveRequest, hi]

/-! ### The register port (R132, R41) -/

/-- Concatenation puts the left word above the right one. -/
theorem toNat_append_eq_add {m n : Nat} (x : BitVec m) (y : BitVec n) :
    (x ++ y).toNat = x.toNat * 2 ^ n + y.toNat := by
  rw [BitVec.toNat_append, ← Nat.shiftLeft_add_eq_or_of_lt y.isLt, Nat.shiftLeft_eq]

theorem errBits_eq (s : State) :
    errBits s = BitVec.ofNat 16 ((errCode s.err).toNat + 256 * s.errInfo.toNat) := by
  apply BitVec.eq_of_toNat_eq
  simp only [errBits, toNat_append_eq_add, BitVec.toNat_ofNat]
  omega

theorem seqBits_eq (q : Seq) :
    seqBits q = BitVec.ofNat 16
      (4096 * (opCode q.op).toNat + 256 * (lCode q.l).toNat + 16 * (xCode q.x).toNat + (wCode q.w).toNat) := by
  apply BitVec.eq_of_toNat_eq
  simp only [seqBits, toNat_append_eq_add, BitVec.toNat_ofNat]
  omega

theorem ctrlBits_eq (s : State) :
    ctrlBits s = BitVec.ofNat 16 (s.wrap.toNat + 2 * s.idlep.toNat + 4 * s.busy.toNat) := by
  unfold ctrlBits
  cases s.busy <;> cases s.idlep <;> cases s.wrap <;> rfl

theorem step_regRead {c : CtrlReg} {rest : List Input} {s : State} (h : s.inputs = .regRead c :: rest) :
    step s = .next { s with inputs := rest, portReplies := s.portReplies ++ [readRegister c s] } := step_input h

/-- Settles O44, register by register. -/
theorem registerReadReturnsTheValue : Obligations.RegisterReadReturnsTheValue := by
  intro c rest s hin
  have hbyte : ∀ {w : Nat} (x : BitVec w), x.zeroExtend 16 = BitVec.ofNat 16 x.toNat := fun x =>
    (BitVec.ofNat_toNat 16 x).symm
  refine ⟨readRegister c s, step_regRead hin, ?_, ?_, ?_, ?_, ?_, ?_, ?_, ?_, ?_, ?_⟩
  · rintro rfl; exact congrArg PortReply.value (hbyte s.cfgBus)
  · rintro rfl; exact congrArg PortReply.value (hbyte s.cfgDevaddr)
  · rintro rfl; rfl
  · rintro rfl; exact congrArg PortReply.value (hbyte s.cfgCmdreg)
  · rintro rfl; exact congrArg PortReply.value (hbyte (powerCode s.pwr))
  · rintro rfl hst; simp only [readRegister, hst]
  · rintro st rfl hst; simp only [readRegister, hst]
  · rintro rfl; exact congrArg PortReply.value (errBits_eq s)
  · rintro rfl; exact congrArg PortReply.value (seqBits_eq s.seq)
  · rintro rfl; exact congrArg PortReply.value (ctrlBits_eq s)

/-- Settles O45: the register port serves the write, register by register. -/
theorem registerWriteIsGuarded : Obligations.RegisterWriteIsGuarded := by
  intro c v rest s hin
  rw [step_input hin]
  refine ⟨?_, ?_, fun h => ?_⟩
  · rintro hb rfl
    exact if_neg (ne_true_of_eq_false hb)
  · rintro hb rfl
    exact if_neg (ne_true_of_eq_false hb)
  · cases c
    case cfgBus | cfgDevaddr =>
      have hb : s.busy = true := by simpa using h
      exact ⟨.registerWriteWhileBusy, if_pos hb⟩
    all_goals exact ⟨.readOnlyRegister, rfl⟩

end Sys2Proof.Machine
end

section
/-! The rows on the wire (30_encoding.md R101, R105, R118; 44_command_executor.md R223, R224, R229): what each Command
Frame row sends, and that a step of AFC at a wire encoding is its row. -/

namespace Sys2Proof.Machine

variable {s : State}

/-! ### The Command Frame rows send their frame -/

theorem p2High_eq_zero {n : Nat} (h : n < 256) : p2High n = 0#8 := by
  rw [p2High, Nat.div_eq_of_lt h]

theorem exec_shaUpdate {block : Bytes} (h : block.length = Config.block) :
    exec (.shaUpdate block) s = sendCommand s.par.opcSha s.par.shaUpdate 0x40#8 0#8 block s := if_pos h

theorem exec_shaEnd {tail : Bytes} (h : tail.length < Config.block) :
    exec (.shaEnd tail) s = sendCommand s.par.opcSha s.par.shaEnd (p2Low tail.length) 0#8 tail s := by
  have hlt : tail.length < 256 := h.trans (by decide)
  rw [← p2High_eq_zero hlt]
  exact if_pos h

theorem exec_cmdGeneric (opc p1 p2a p2b : Byte) {data : Bytes} (h : data.length ≤ Config.maxData) :
    exec (.cmdGeneric opc p1 p2a p2b data) s = sendCommand opc p1 p2a p2b data s := if_pos h

/-- Whatever row the fields of a Command Frame are, it sends the frame of these fields. -/
theorem exec_classifyCommand (opc p1 p2a p2b : Byte) {data : Bytes} (hd : data.length ≤ Config.maxData) :
    exec (classifyCommand s.par opc p1 p2a p2b data) s = sendCommand opc p1 p2a p2b data s := by
  have hrow := commandRow_classifyCommand s.par opc p1 p2a p2b data
  generalize classifyCommand s.par opc p1 p2a p2b data = i at hrow ⊢
  cases hrow with
  | readId | selftestAll | shaStart => rfl
  | shaUpdate _ hl => exact exec_shaUpdate hl
  | shaEnd _ hl => exact exec_shaEnd hl
  | generic => exact exec_cmdGeneric opc p1 p2a p2b hd

/-- The state after the command write: the operands loaded and framed, the write on the trace, and the next step by its
answer (R223, R224, R290 (c)). -/
def commandSent (ans : WrAnswer) (ws : List WrAnswer) (opc p1 p2a p2b : Byte) (data : Bytes) (s : State) : State :=
  let u : State := { s with
    opc := opc, p1 := p1, p2a := p2a, p2b := p2b, data := data, dlen := BitVec.ofNat 8 data.length,
    cnt := BitVec.ofNat 8 (7 + data.length), crc := crcReg (commandBody opc p1 p2a p2b data),
    txbuf := commandFrame opc p1 p2a p2b data, wrAns := ws,
    trace := s.trace ++
      [Event.busWrite s.cfgBus s.cfgDevaddr s.cfgCmdreg (commandFrame opc p1 p2a p2b data) ans] }
  match ans with
  | .ok => { u with seq := { s.seq with x := .xSettle } }
  | .err e => enterExit { u with err := .transportError, errBus := e }

theorem sendCommand_answered {ans : WrAnswer} {ws : List WrAnswer} (hx : s.seq.x = .xWrcmd) (ha : s.wrAns = ans :: ws)
    (opc p1 p2a p2b : Byte) (data : Bytes) :
    sendCommand opc p1 p2a p2b data s = .next (commandSent ans ws opc p1 p2a p2b data s) := by
  have ha' : (encodeFrame (loadOperands opc p1 p2a p2b data s)).wrAns = ans :: ws := ha
  cases ans with
  | ok =>
    have hnext : xNext s.seq.x = .xSettle := by rw [hx]; rfl
    simp only [sendCommand, xWrcmdStep_ok ha', ofSeq, commandSent, ← hnext]
    rfl
  | err e =>
    have hx' : (encodeFrame (loadOperands opc p1 p2a p2b data s)).seq.x = .xWrcmd := hx
    simp only [sendCommand, xWrcmdStep_err ha', raise, setError_seq, hx']
    rfl

/-- Settles O29: every row sends a frame, and the answer decides the next step. -/
theorem commandFrameRowsWriteTheirFrame : Obligations.CommandFrameRowsWriteTheirFrame := by
  intro s ans ws _ hx ha sent
  have hsent := sendCommand_answered hx ha
  refine ⟨hsent .., hsent .., hsent .., fun block hl => (exec_shaUpdate hl).trans (hsent ..), fun tail hl => ?_,
    fun opc p1 p2a p2b data hd => (exec_cmdGeneric opc p1 p2a p2b hd).trans (hsent ..)⟩
  have hp2 : p2Low tail.length = BitVec.ofNat 8 tail.length := by rw [p2Low, Nat.mod_eq_of_lt (hl.trans (by decide))]
  rw [exec_shaEnd hl, hp2]
  exact hsent ..

/-! ### The wire row at the sequencer's step -/

/-- A Response Frame that decodes is verified by its row (R204, R229). -/
theorem exec_of_decodeResponse {buf : Bytes} {i : Instr} (h : decodeResponse buf = .ok i) :
    exec i s = responseStep buf s := by
  obtain ⟨he, hc, -⟩ := encodes_of_decodeResponse (par := s.par) h
  cases i
  case respStatus | respData => rw [← he]; rfl
  all_goals cases hc

theorem ok_of_toOption {ε α : Type} {r : Except ε α} {x : α} (h : r.toOption = some x) : r = .ok x := by
  cases r <;> cases h
  rfl

theorem frameReady_at_xWrcmd (h : StateInv s = true) (hx : s.seq.x = .xWrcmd) : frameReady s = true := by
  cases ((stateInv_iff s).1 h).2 with
  | execute _ _ hn =>
    simp only [exchangeNested, hx, Bool.and_eq_true] at hn
    exact hn.2
  | quiet _ hseq => simp [hseq] at hx
  | wake | sleep | idle | prepare | format | librarySleep => simp_all

/-- At `X_WRCMD` the operands are loaded and framed already (R223), so framing them again changes nothing. -/
theorem sendCommand_at_xWrcmd (h : StateInv s = true) (hx : s.seq.x = .xWrcmd) :
    sendCommand s.opc s.p1 s.p2a s.p2b s.data s = ofSeq s (xWrcmdStep s) := by
  obtain ⟨-, hdlen, -⟩ := (Memory.wf_iff s).1 ((stateInv_iff s).1 h).1
  have hready := frameReady_at_xWrcmd h hx
  simp only [frameReady, Bool.and_eq_true, beq_iff_eq] at hready
  obtain ⟨⟨htx, hcnt⟩, hcrc⟩ := hready
  have hsame : encodeFrame (loadOperands s.opc s.p1 s.p2a s.p2b s.data s) = s := by
    simp only [encodeFrame, loadOperands, ← hdlen, ← htx, ← hcnt, ← hcrc]
  simp only [sendCommand, hsame]

/-- AFC's own step where it stands at a wire encoding is that row. -/
theorem ownStep_wireInstr {i : Instr} (h : StateInv s = true) (hb : s.busy = true) (hi : wireInstr s = some i) :
    ownStep s = exec i s := by
  have hverify (hd : (decode s.par .responseFrame s.rxbuf).toOption = some i) :
      ofSeq s (verifyStep s) = exec i s := (exec_of_decodeResponse (ok_of_toOption hd)).symm
  rw [ownStep, seqStep_busy hb]
  cases hw : s.seq.w <;> simp only [wireInstr, wStep, hw] at hi ⊢
  case wWrite | sWrite | iWrite => cases hi; rfl
  case wSettle | wRead => cases hi
  case wVerify => exact hverify hi
  case off =>
    cases hx : s.seq.x <;> simp only [xStep, hx] at hi ⊢
    case xWrcmd =>
      obtain ⟨hd, htx⟩ := txbuf_at_xWrcmd h hx
      have hrow := ok_of_toOption hi
      rw [htx, decode, decodeCommand_commandFrame _ _ _ _ _ hd] at hrow
      cases hrow
      rw [exec_classifyCommand _ _ _ _ hd, sendCommand_at_xWrcmd h hx]
    case xTrig => cases hi; rfl
    case xVerify => exact hverify hi
    all_goals cases hi

/-- Settles O47: AFC's own step is the whole step without an input and with `pass`. -/
theorem stepRunsTheWireRow : Obligations.StepRunsTheWireRow := by
  intro i s h hb hi
  exact ⟨fun hin => (step_no_input hin).trans (ownStep_wireInstr h hb hi),
    fun rest hin => (step_input hin).trans (ownStep_wireInstr (s := { s with inputs := rest }) h hb hi)⟩

end Sys2Proof.Machine
end

section
/-! Every sequencer step brings the operation nearer its end, and does not see the inputs to come or what the register
port has returned (10_state.md R30; 30_encoding.md R132): one walk through the steps for both. -/

namespace Sys2Proof.Machine

/-! ### How many steps are left -/

/-- The steps left of the power-state sequence in progress, at most (R200, R206, R208). -/
def powerLeft : WStep → Nat
  | .off => 0
  | .wWrite => 5
  | .wSettle => 4
  | .wRead => 3
  | .wVerify => 2
  | .sWrite => 1
  | .iWrite => 1

/-- The steps left of the EXECUTE in progress beside the power-state steps, at most (R220). -/
def exchangeLeft : XStep → Nat
  | .off => 0
  | .xWake => 12
  | .xArm => 11
  | .xEncode => 10
  | .xWrcmd => 9
  | .xSettle => 8
  | .xTrig => 7
  | .xRdlen => 6
  | .xRdfrm => 5
  | .xVerify => 4
  | .xExit => 2

/-- The steps left of a library operation after the EXECUTE in progress, at most: one EXECUTE for each block that is
left (R258) and one for the end (R259), the formatting and the sleep. -/
def libraryLeft (s : State) : Nat :=
  match s.seq.l with
  | .off => 0
  | .lPrep => 36 + 16 * blockCount s.hashText
  | .lExec => 18 + 16 * (blockCount s.msg - s.blk)
  | .lUpdate => 18 + 16 * (blockCount s.msg - (s.blk + 1))
  | .lEnd => 2
  | .lFormat => 2
  | .lSleep => 0

/-- The sequencer steps left of the operation in progress, at most: a measure that every step lowers, also where the
idle write comes on top of `X_EXIT` (R230). -/
def stepsLeft (s : State) : Nat := libraryLeft s + exchangeLeft s.seq.x + powerLeft s.seq.w

theorem exchangeLeft_xNext {x : XStep} (h : x ≠ .off) : exchangeLeft (xNext x) < exchangeLeft x := by
  cases x
  case off => exact absurd rfl h
  all_goals decide

theorem two_le_exchangeLeft {x : XStep} (h : x ≠ .off) : 2 ≤ exchangeLeft x := by
  cases x
  case off => exact absurd rfl h
  all_goals decide

theorem powerLeft_wNext {w : WStep} (h : w ≠ .off) : powerLeft (wNext w) < powerLeft w := by
  cases w
  case off => exact absurd rfl h
  all_goals decide

@[simp] theorem endOperation_stepsLeft (s : State) : stepsLeft (endOperation s) = 0 := by
  simp [stepsLeft, libraryLeft, exchangeLeft, powerLeft]

/-! ### The same step with other inputs -/

/-- `s` with these inputs to come and these replies of the register port. -/
def State.withPort (ins : List Input) (rs : List PortReply) (s : State) : State :=
  { s with inputs := ins, portReplies := rs }

/-- Two sequencer steps, the second with other inputs and replies, do the same, and where they move fewer than `n` steps
are left. -/
inductive Lands (ins : List Input) (rs : List PortReply) (n : Nat) : SeqResult → SeqResult → Prop
  | moved (t : State) (h : stepsLeft t < n) : Lands ins rs n (.moved t) (.moved (t.withPort ins rs))
  | stay : Lands ins rs n .stay .stay
  | fault (f : Fault) : Lands ins rs n (.fault f) (.fault f)

variable {ins : List Input} {rs : List PortReply} {n : Nat} {s : State}

theorem Lands.stepsLeft_lt {t : State} {r : SeqResult} (h : Lands ins rs n (.moved t) r) : stepsLeft t < n := by
  cases h
  assumption

@[simp] theorem withPort_seq : (s.withPort ins rs).seq = s.seq := rfl
@[simp] theorem withPort_busy : (s.withPort ins rs).busy = s.busy := rfl
@[simp] theorem withPort_rlen : (s.withPort ins rs).rlen = s.rlen := rfl
@[simp] theorem withPort_txbuf : (s.withPort ins rs).txbuf = s.txbuf := rfl
@[simp] theorem withPort_cfgDevaddr : (s.withPort ins rs).cfgDevaddr = s.cfgDevaddr := rfl
@[simp] theorem withPort_cfgCmdreg : (s.withPort ins rs).cfgCmdreg = s.cfgCmdreg := rfl

theorem endOperation_withPort : endOperation (s.withPort ins rs) = (endOperation s).withPort ins rs := by
  have he : raisedError (s.withPort ins rs) = raisedError s := rfl
  unfold endOperation
  rw [he]
  cases raisedError s <;> rfl

theorem endOperation_lands (hn : 0 < n) :
    Lands ins rs n (.moved (endOperation s)) (.moved (endOperation (s.withPort ins rs))) := by
  rw [endOperation_withPort]
  exact .moved _ (by simpa)

theorem setError_withPort (e : OpError) : setError e (s.withPort ins rs) = (setError e s).withPort ins rs := by
  cases e <;> rfl

theorem libraryLeft_setError (e : OpError) : libraryLeft (setError e s) = libraryLeft s := by
  simp [libraryLeft]

theorem verifyWrites_withPort : verifyWrites (s.withPort ins rs) = (verifyWrites s).withPort ins rs := by
  have hr : (s.withPort ins rs).rxbuf = s.rxbuf := rfl
  unfold verifyWrites
  rw [hr]
  cases checkResponse s.rxbuf <;> rfl

theorem stepsLeft_verifyWrites : stepsLeft (verifyWrites s) = stepsLeft s := by
  obtain ⟨c, b, st, hv⟩ := verifyWrites_eq s
  rw [hv]
  rfl

/-! ### Leaving an EXECUTE and raising an error -/

theorem enterExit_lands (hn : libraryLeft s + 3 < n) :
    Lands ins rs n (.moved (enterExit s)) (.moved (enterExit (s.withPort ins rs))) := by
  refine .moved _ ?_
  change libraryLeft s + 2 + powerLeft (if s.idlep then .iWrite else .off) < n
  cases s.idlep <;> simp [powerLeft] <;> omega

theorem enterUpdate_lands (hn : 19 + 16 * (blockCount s.msg - s.blk) < n) :
    Lands ins rs n (.moved (enterUpdate s)) (.moved (enterUpdate (s.withPort ins rs))) := by
  have hport : enterUpdate (s.withPort ins rs) = (enterUpdate s).withPort ins rs := by
    rw [enterUpdate, enterUpdate, apply_ite (State.withPort ins rs)]
    rfl
  rw [hport]
  refine .moved _ ?_
  unfold enterUpdate
  split
  next hblk =>
    change 18 + 16 * (blockCount s.msg - (s.blk + 1)) + 12 + 5 < n
    omega
  next =>
    change 2 + 12 + 5 < n
    omega

theorem libNext_lands (hn : libraryLeft s + 1 < n) : Lands ins rs n (libNext s) (libNext (s.withPort ins rs)) := by
  have hformat (h : 2 < n) : Lands ins rs n (.moved (enterFormat s)) (.moved (enterFormat (s.withPort ins rs))) :=
    .moved (enterFormat s) h
  unfold libNext
  rw [withPort_seq]
  unfold libraryLeft at hn
  split
  case h_1 hl | h_2 hl | h_5 hl =>
    simp only [hl] at hn
    exact hformat (by omega)
  case h_3 hl =>
    simp only [hl] at hn
    exact enterUpdate_lands (by omega)
  case h_4 hl =>
    simp only [hl] at hn
    exact enterUpdate_lands (s := { s with blk := s.blk + 1 }) (by dsimp only; omega)
  case h_6 => exact .fault _

theorem libError_lands (hn : 1 < n) :
    Lands ins rs n (.moved (libError s)) (.moved (libError (s.withPort ins rs))) := by
  have hp : (s.withPort ins rs).par = s.par := rfl
  unfold libError
  rw [hp]
  split
  · exact .moved (enterSleep s) hn
  · exact endOperation_lands (by omega)

theorem leaveExecute_lands (hn : libraryLeft s + 1 < n) :
    Lands ins rs n (leaveExecute s) (leaveExecute (s.withPort ins rs)) :=
  rel_ite .rfl (endOperation_lands (s := { s with seq := ⟨s.seq.op, s.seq.l, .off, .off⟩ }) (by omega))
    (rel_ite .rfl (libNext_lands (s := { s with seq := ⟨s.seq.op, s.seq.l, .off, .off⟩ }) hn)
      (libError_lands (s := { s with seq := ⟨s.seq.op, s.seq.l, .off, .off⟩ }) (by omega)))

/-- Raising an error ends the operation, the EXECUTE, or leaves its exit to go. -/
theorem raise_lands (e : OpError) (hn : 0 < n) (hx : s.seq.x ≠ .off → libraryLeft s + 3 < n) :
    Lands ins rs n (raise e s) (raise e (s.withPort ins rs)) := by
  unfold raise
  simp only [setError_withPort, withPort_seq, setError_seq]
  cases hx' : s.seq.x
  case off => exact endOperation_lands hn
  case xWake =>
    have := hx (by simp [hx'])
    exact leaveExecute_lands (by rw [libraryLeft_setError]; omega)
  all_goals exact enterExit_lands (by rw [libraryLeft_setError]; exact hx (by simp [hx']))

/-! ### The end of a wake, of a sleep write and of an idle write -/

/-- A power-state sequence is over: it ends the operation, or not. -/
theorem powerDone_lands {c : Prop} [Decidable c] (hn : stepsLeft s < n) :
    Lands ins rs n (.moved (if c then endOperation s else s))
      (.moved (if c then endOperation (s.withPort ins rs) else s.withPort ins rs)) := by
  split
  · exact endOperation_lands (Nat.zero_lt_of_lt hn)
  · exact .moved s hn

theorem wakeDone_lands (hn : libraryLeft s + exchangeLeft s.seq.x < n) :
    Lands ins rs n (.moved (wakeDone s)) (.moved (wakeDone (s.withPort ins rs))) := by
  by_cases hx : s.seq.x = .xWake
  · rw [wakeDone_execute hx, wakeDone_execute (by exact hx)]
    have hnext := exchangeLeft_xNext (x := s.seq.x) (by simp [hx])
    refine .moved (advanceX { s with pwr := .awake, seq := { s.seq with w := .off } }) ?_
    change libraryLeft s + exchangeLeft (xNext s.seq.x) < n
    omega
  · rw [wakeDone_host hx, wakeDone_host (by exact hx)]
    exact powerDone_lands (s := { s with pwr := .awake, seq := { s.seq with w := .off } }) hn

theorem sleepDone_lands (hn : libraryLeft s + exchangeLeft s.seq.x < n) :
    Lands ins rs n (.moved (sleepDone s)) (.moved (sleepDone (s.withPort ins rs))) :=
  powerDone_lands (s := { s with pwr := .dormant, seq := { s.seq with w := .off } }) hn

theorem idleDone_lands (hn : libraryLeft s + exchangeLeft s.seq.x < n) :
    Lands ins rs n (idleDone s) (idleDone (s.withPort ins rs)) := by
  by_cases hx : s.seq.x = .xExit
  · rw [idleDone_execute hx, idleDone_execute (by exact hx)]
    rw [hx] at hn
    exact leaveExecute_lands (s := { s with pwr := .idle, idlep := false, seq := { s.seq with w := .off } })
      (Nat.lt_of_succ_lt hn)
  · rw [idleDone_host hx, idleDone_host (by exact hx)]
    exact powerDone_lands (s := { s with pwr := .idle, seq := { s.seq with w := .off } }) hn

/-! ### The steps of a power-state sequence and of an EXECUTE -/

theorem advanceX_lands (hx : s.seq.x ≠ .off) (hn : stepsLeft s ≤ n) :
    Lands ins rs n (.moved (advanceX s)) (.moved (advanceX (s.withPort ins rs))) := by
  have hnext := exchangeLeft_xNext hx
  refine .moved (advanceX s) ?_
  change libraryLeft s + exchangeLeft (xNext s.seq.x) + powerLeft s.seq.w < n
  unfold stepsLeft at hn
  omega

theorem advanceW_lands (hw : s.seq.w ≠ .off) (hn : stepsLeft s ≤ n) :
    Lands ins rs n (.moved (advanceW s)) (.moved (advanceW (s.withPort ins rs))) := by
  have hnext := powerLeft_wNext hw
  refine .moved (advanceW s) ?_
  change libraryLeft s + exchangeLeft s.seq.x + powerLeft (wNext s.seq.w) < n
  unfold stepsLeft at hn
  omega

/-- An error at a step of a wake or of the body of an EXECUTE. -/
theorem raise_step_lands (e : OpError) (h : 2 ≤ powerLeft s.seq.w ∨ 4 ≤ exchangeLeft s.seq.x) (hn : stepsLeft s ≤ n) :
    Lands ins rs n (raise e s) (raise e (s.withPort ins rs)) := by
  unfold stepsLeft at hn
  refine raise_lands e (by omega) fun hx => ?_
  have := two_le_exchangeLeft hx
  omega

theorem finishVerify_lands (r : VerifyResult) (h : s.seq.w = .wVerify ∨ s.seq.w = .off ∧ s.seq.x = .xVerify)
    (hn : stepsLeft s ≤ n) : Lands ins rs n (finishVerify r s) (finishVerify r (s.withPort ins rs)) := by
  rcases h with hw | ⟨hw, hx⟩
  · by_cases hr : ∃ p, r = .ok p (some .afterWakeBeforeFirstCommand)
    · obtain ⟨p, rfl⟩ := hr
      rw [finishVerify_afterWake hw, finishVerify_afterWake (by exact hw)]
      refine wakeDone_lands ?_
      simp only [stepsLeft, hw, powerLeft] at hn
      omega
    · rw [finishVerify_wakeFailed hw (not_exists.1 hr), finishVerify_wakeFailed (by exact hw) (not_exists.1 hr)]
      exact raise_step_lands _ (.inl (by simp [hw, powerLeft])) hn
  · have hw' : s.seq.w ≠ .wVerify := by simp [hw]
    cases r with
    | ok p st =>
      rw [finishVerify_execute_ok hw' hx, finishVerify_execute_ok (by exact hw') (by exact hx)]
      refine enterExit_lands ?_
      simp only [stepsLeft, hw, hx, powerLeft, exchangeLeft] at hn
      omega
    | error e =>
      rw [finishVerify_execute_error hw' hx, finishVerify_execute_error (by exact hw') (by exact hx)]
      exact raise_step_lands _ (.inr (by simp [hx, exchangeLeft])) hn

theorem verifyStep_lands (h : s.seq.w = .wVerify ∨ s.seq.w = .off ∧ s.seq.x = .xVerify) :
    Lands ins rs (stepsLeft s) (verifyStep s) (verifyStep (s.withPort ins rs)) := by
  have hr : verifyStep (s.withPort ins rs) =
      finishVerify (verifyResult s.par.statusMap s.rxbuf) ((verifyWrites s).withPort ins rs) := by
    rw [← verifyWrites_withPort]
    rfl
  rw [hr, verifyStep]
  exact finishVerify_lands _ (by simpa using h) stepsLeft_verifyWrites.le

/-! ### The bus steps -/

/-- A write takes the same answer of the transport, or waits for it, and leaves the operation at its step. -/
theorem busWrite_withPort (ins : List Input) (rs : List PortReply) (dev reg : Byte) (b : Bytes) (s : State) :
    (busWrite dev reg b s = none ∧ busWrite dev reg b (s.withPort ins rs) = none) ∨
      ∃ a t, busWrite dev reg b s = some (a, t) ∧ busWrite dev reg b (s.withPort ins rs) = some (a, t.withPort ins rs) ∧
        t.seq = s.seq ∧ stepsLeft t = stepsLeft s ∧ libraryLeft t = libraryLeft s := by
  rcases busWrite_cases dev reg b s with ⟨hw, e⟩ | ⟨a, ws, hw, e⟩
  · exact .inl ⟨e, by simp only [busWrite, State.withPort, hw]⟩
  · exact .inr ⟨a, _, e, by simp only [busWrite, State.withPort, hw], rfl, rfl, rfl⟩

/-- A read does in the same sense. -/
theorem busRead_withPort (ins : List Input) (rs : List PortReply) (dev reg : Byte) (k : Nat) (s : State) :
    (busRead dev reg k s = none ∧ busRead dev reg k (s.withPort ins rs) = none) ∨
      ∃ a t, busRead dev reg k s = some (a, t) ∧ busRead dev reg k (s.withPort ins rs) = some (a, t.withPort ins rs) ∧
        t.seq = s.seq ∧ stepsLeft t = stepsLeft s := by
  rcases busRead_cases dev reg k s with ⟨hr, e⟩ | ⟨a, ts, hr, e⟩
  · exact .inl ⟨e, by simp only [busRead, State.withPort, hr]⟩
  · exact .inr ⟨a, _, e, by simp only [busRead, State.withPort, hr], rfl, rfl⟩

theorem wWriteStep_lands (hw : s.seq.w = .wWrite) :
    Lands ins rs (stepsLeft s) (wWriteStep s) (wWriteStep (s.withPort ins rs)) := by
  rcases busWrite_withPort ins rs Config.wakeDevaddr Config.reg0 [0x00#8] s with ⟨e, e'⟩ | ⟨a, t, e, e', hq, hn, -⟩ <;>
    simp only [wWriteStep, e, e']
  · exact .stay
  · exact advanceW_lands (by simp [hq, hw]) hn.le

theorem wReadStep_lands (hw : s.seq.w = .wRead) :
    Lands ins rs (stepsLeft s) (wReadStep s) (wReadStep (s.withPort ins rs)) := by
  rcases busRead_withPort ins rs s.cfgDevaddr Config.reg0 4 s with ⟨e, e'⟩ | ⟨a, t, e, e', hq, hn⟩ <;>
    simp only [wReadStep, withPort_cfgDevaddr, e, e']
  · exact .stay
  · cases a with
    | err e => exact raise_step_lands _ (.inl (by simp [hq, hw, powerLeft])) hn.le
    | bytes b => exact advanceW_lands (s := { t with rxbuf := b }) (by simp [hq, hw]) hn.le

theorem sWriteStep_lands (hw : s.seq.w = .sWrite) :
    Lands ins rs (stepsLeft s) (sWriteStep s) (sWriteStep (s.withPort ins rs)) := by
  rcases busWrite_withPort ins rs s.cfgDevaddr s.cfgCmdreg [Config.sleepByte] s with
      ⟨e, e'⟩ | ⟨a, t, e, e', hq, -, hl⟩ <;>
    simp only [sWriteStep, withPort_cfgDevaddr, withPort_cfgCmdreg, e, e']
  · exact .stay
  · refine sleepDone_lands ?_
    rw [hq, hl, stepsLeft, hw]
    exact Nat.lt_succ_self _

theorem iWriteStep_lands (hw : s.seq.w = .iWrite) :
    Lands ins rs (stepsLeft s) (iWriteStep s) (iWriteStep (s.withPort ins rs)) := by
  rcases busWrite_withPort ins rs s.cfgDevaddr s.cfgCmdreg [Config.idleByte] s with
      ⟨e, e'⟩ | ⟨a, t, e, e', hq, -, hl⟩ <;>
    simp only [iWriteStep, withPort_cfgDevaddr, withPort_cfgCmdreg, e, e']
  · exact .stay
  · refine idleDone_lands ?_
    rw [hq, hl, stepsLeft, hw]
    exact Nat.lt_succ_self _

theorem xWrcmdStep_lands (hx : s.seq.x = .xWrcmd) :
    Lands ins rs (stepsLeft s) (xWrcmdStep s) (xWrcmdStep (s.withPort ins rs)) := by
  rcases busWrite_withPort ins rs s.cfgDevaddr s.cfgCmdreg s.txbuf s with ⟨e, e'⟩ | ⟨a, t, e, e', hq, hn, -⟩ <;>
    simp only [xWrcmdStep, withPort_cfgDevaddr, withPort_cfgCmdreg, withPort_txbuf, e, e']
  · exact .stay
  · cases a with
    | err e => exact raise_step_lands _ (.inr (by simp [hq, hx, exchangeLeft])) hn.le
    | ok => exact advanceX_lands (by simp [hq, hx]) hn.le

theorem xTrigStep_lands (hx : s.seq.x = .xTrig) :
    Lands ins rs (stepsLeft s) (xTrigStep s) (xTrigStep (s.withPort ins rs)) := by
  rcases busWrite_withPort ins rs s.cfgDevaddr Config.reg0 [0x00#8] s with ⟨e, e'⟩ | ⟨a, t, e, e', hq, hn, -⟩ <;>
    simp only [xTrigStep, withPort_cfgDevaddr, e, e']
  · exact .stay
  · cases a with
    | err e => exact raise_step_lands _ (.inr (by simp [hq, hx, exchangeLeft])) hn.le
    | ok => exact advanceX_lands (by simp [hq, hx]) hn.le

theorem xRdlenStep_lands (hx : s.seq.x = .xRdlen) :
    Lands ins rs (stepsLeft s) (xRdlenStep s) (xRdlenStep (s.withPort ins rs)) := by
  rcases busRead_withPort ins rs s.cfgDevaddr s.cfgCmdreg 1 s with ⟨e, e'⟩ | ⟨a, t, e, e', hq, hn⟩ <;>
    simp only [xRdlenStep, withPort_cfgDevaddr, withPort_cfgCmdreg, e, e']
  · exact .stay
  · rcases a with (_ | ⟨k, b⟩) | e
    · exact .fault _
    · exact advanceX_lands (s := { t with rlen := k }) (by simp [hq, hx]) hn.le
    · exact raise_step_lands _ (.inr (by simp [hq, hx, exchangeLeft])) hn.le

theorem xRdfrmStep_lands (hx : s.seq.x = .xRdfrm) :
    Lands ins rs (stepsLeft s) (xRdfrmStep s) (xRdfrmStep (s.withPort ins rs)) := by
  rcases busRead_withPort ins rs s.cfgDevaddr s.cfgCmdreg s.rlen.toNat s with ⟨e, e'⟩ | ⟨a, t, e, e', hq, hn⟩ <;>
    simp only [xRdfrmStep, withPort_cfgDevaddr, withPort_cfgCmdreg, withPort_rlen, e, e']
  · exact .stay
  · cases a with
    | err e => exact raise_step_lands _ (.inr (by simp [hq, hx, exchangeLeft])) hn.le
    | bytes b => exact advanceX_lands (s := { t with rxbuf := b }) (by simp [hq, hx]) hn.le

/-! ### The library steps and the sequencer -/

theorem hexDecode_length {m : Bytes} : ∀ {text : Bytes}, hexDecode text = some m → m.length ≤ text.length
  | [], h => by cases h; exact Nat.le_refl _
  | [_], h => by cases h
  | hi :: lo :: rest, h => by
    unfold hexDecode at h
    split at h <;> cases h
    next hrest =>
    have hlen := hexDecode_length hrest
    simp only [List.length_cons]
    omega

theorem messageBytes_length {m : Bytes} (h : messageBytes s = some m) : m.length ≤ s.hashText.length := by
  unfold messageBytes at h
  split at h
  · exact hexDecode_length h
  · cases h; exact Nat.le_refl _

theorem lPrepStep_lands (hl : s.seq.l = .lPrep) (hx : s.seq.x = .off) :
    Lands ins rs (stepsLeft s) (lPrepStep s) (lPrepStep (s.withPort ins rs)) := by
  have hn : stepsLeft s = 36 + 16 * blockCount s.hashText + powerLeft s.seq.w := by
    simp [stepsLeft, libraryLeft, hl, hx, exchangeLeft]
  rw [hn]
  cases hm : messageBytes s with
  | none =>
    rw [lPrepStep_none hm, lPrepStep_none (by exact hm)]
    exact raise_lands _ (by omega) fun h => absurd hx h
  | some m =>
    rw [lPrepStep_some hm, lPrepStep_some (by exact hm)]
    have hblocks : blockCount m ≤ blockCount s.hashText := Nat.div_le_div_right (messageBytes_length hm)
    refine .moved (beginLibExecute .lExec s.par.opcSha s.par.shaStart 0#8 0#8 [] { s with msg := m, blk := 0 }) ?_
    change 18 + 16 * (blockCount m - 0) + 12 + 5 < _
    omega

theorem lFormatStep_lands (hl : s.seq.l = .lFormat) :
    Lands ins rs (stepsLeft s) (lFormatStep s) (lFormatStep (s.withPort ins rs)) := by
  cases ho : outputText s with
  | ok text =>
    rw [lFormatStep_ok ho, lFormatStep_ok (by exact ho)]
    refine .moved (enterSleep { s with text := text }) ?_
    have hn : 2 ≤ stepsLeft s := by simp [stepsLeft, libraryLeft, hl]; omega
    exact hn
  | error f =>
    rw [lFormatStep_error ho, lFormatStep_error (by exact ho)]
    exact .fault f

theorem lStep_lands (hx : s.seq.x = .off) : Lands ins rs (stepsLeft s) (lStep s) (lStep (s.withPort ins rs)) := by
  cases hl : s.seq.l <;> simp only [lStep, withPort_seq, hl]
  case lPrep => exact lPrepStep_lands hl hx
  case lFormat => exact lFormatStep_lands hl
  all_goals exact .fault _

theorem xStep_lands (hw : s.seq.w = .off) : Lands ins rs (stepsLeft s) (xStep s) (xStep (s.withPort ins rs)) := by
  cases hx : s.seq.x <;> simp only [xStep, withPort_seq, hx]
  case off => exact lStep_lands hx
  case xWake => exact rel_ite .rfl (.fault _) (advanceX_lands (by simp [hx]) le_rfl)
  case xArm =>
    exact rel_ite (R := fun t u => Lands ins rs (stepsLeft s) (.moved (advanceX t)) (.moved (advanceX u))) .rfl
      (advanceX_lands (s := { s with idlep := true }) (by simp [hx]) (by exact le_rfl))
      (advanceX_lands (by simp [hx]) le_rfl)
  case xEncode => exact advanceX_lands (s := encodeFrame s) (by simp [hx]) (by exact le_rfl)
  case xWrcmd => exact xWrcmdStep_lands hx
  case xSettle => exact advanceX_lands (s := settleDelay s) (by simp [hx]) (by exact le_rfl)
  case xTrig => exact xTrigStep_lands hx
  case xRdlen => exact xRdlenStep_lands hx
  case xRdfrm => exact xRdfrmStep_lands hx
  case xVerify => exact verifyStep_lands (.inr ⟨hw, hx⟩)
  case xExit =>
    refine rel_ite .rfl (.fault _) (leaveExecute_lands ?_)
    simp only [stepsLeft, hx, exchangeLeft]
    omega

theorem wStep_lands : Lands ins rs (stepsLeft s) (wStep s) (wStep (s.withPort ins rs)) := by
  cases hw : s.seq.w <;> simp only [wStep, withPort_seq, hw]
  case off => exact xStep_lands hw
  case wWrite => exact wWriteStep_lands hw
  case wSettle => exact advanceW_lands (s := settleDelay s) (by simp [hw]) (by exact le_rfl)
  case wRead => exact wReadStep_lands hw
  case wVerify => exact verifyStep_lands (.inl hw)
  case sWrite => exact sWriteStep_lands hw
  case iWrite => exact iWriteStep_lands hw

theorem seqStep_lands : Lands ins rs (stepsLeft s) (seqStep s) (seqStep (s.withPort ins rs)) :=
  rel_ite .rfl wStep_lands .stay

end Sys2Proof.Machine
end

section
/-! Inputs land between the steps of an operation (30_encoding.md R132): the acceptance alone with inputs pending, and
the operation's run with register reads between its steps. -/

namespace Sys2Proof.Machine

variable {ins : List Input} {rs : List PortReply} {n : Nat} {s t u : State} {i : Instr}

/-! ### The run of an operation, with steps enough -/

theorem stepsLeft_lt_of_seqStep (h : seqStep s = .moved t) : stepsLeft t < stepsLeft s := by
  have hq := seqStep_lands (ins := []) (rs := []) (s := s)
  rw [h] at hq
  exact hq.stepsLeft_lt

/-- With steps enough for the operation more of them change nothing. -/
theorem runSeq_eq_of_le {k : Nat} (hn : stepsLeft s < n) (hk : n ≤ k) : runSeq k s = runSeq n s := by
  induction n generalizing s k with
  | zero => exact absurd hn (Nat.not_lt_zero _)
  | succ n ih =>
    obtain ⟨k, rfl⟩ : ∃ j, k = j + 1 := ⟨k - 1, by omega⟩
    cases hq : seqStep s with
    | moved t =>
      have := stepsLeft_lt_of_seqStep hq
      rw [runSeq_moved hq, runSeq_moved hq]
      exact ih (by omega) (by omega)
    | stay => rw [runSeq_stay hq, runSeq_stay hq]
    | fault f => rw [runSeq_fault hq, runSeq_fault hq]

/-- The budget is enough for the whole operation. -/
theorem FirstStep.stepsLeft_lt (h : FirstStep s i u) : stepsLeft u < stepBudget u := by
  have hbudget : 48 ≤ stepBudget u := by unfold stepBudget; omega
  cases h with
  | wake | sleep | idle => exact Nat.lt_of_lt_of_le (by simp [stepsLeft, libraryLeft, exchangeLeft, powerLeft]) hbudget
  | execute w =>
    refine Nat.lt_of_lt_of_le ?_ hbudget
    cases w <;> simp [stepsLeft, libraryLeft, exchangeLeft, powerLeft]
  | idread | selftest =>
    exact Nat.lt_of_lt_of_le (by simp [stepsLeft, libraryLeft, exchangeLeft, powerLeft, blockCount]) hbudget
  | sha256 isHex text =>
    change 36 + 16 * blockCount text + 0 + 0 < 16 * (blockCount text + 3)
    omega

/-- An operation that is accepted runs from its first step. -/
theorem FirstStep.exec (h : FirstStep s i u) (hb : s.busy = false) : exec i s = runOperation u := by
  cases h with
  | execute w opc p1 p2a p2b data hd => exact (whenIdle_not_busy hb _).trans (if_pos hd)
  | wake | sleep | idle | idread | selftest | sha256 => exact whenIdle_not_busy hb _

theorem FirstStep.inputs (h : FirstStep s i u) : u.inputs = s.inputs := by cases h <;> rfl

/-- With inputs pending the acceptance is the whole step (log 7). -/
theorem FirstStep.exec_pending (h : FirstStep s i u) (hb : s.busy = false) (hin : s.inputs ≠ []) :
    Machine.exec i s = .next u := by
  rw [h.exec hb, runOperation_pending (by rwa [h.inputs])]

theorem FirstStep.withPort (h : FirstStep s i u) (ins : List Input) (rs : List PortReply) :
    FirstStep (s.withPort ins rs) i (u.withPort ins rs) := by
  cases h with
  | wake => exact .wake
  | sleep => exact .sleep
  | idle => exact .idle
  | execute w opc p1 p2a p2b data hd => exact .execute w opc p1 p2a p2b data hd
  | idread => exact .idread
  | selftest => exact .selftest
  | sha256 isHex text => exact .sha256 isHex text

/-! ### Register reads between the steps -/

/-- An outcome, its next state changed. -/
def mapNext (f : State → State) : Host.Outcome State Fault Refusal → Host.Outcome State Fault Refusal
  | .next s => .next (f s)
  | .fault r => .fault r
  | .refused r => .refused r

/-- One step for each of the inputs: with register reads between them as many sequencer steps as there are passes. -/
theorem stepsAfter_withPort (hins : ∀ a ∈ ins, a = .pass ∨ ∃ c, a = .regRead c) (s : State) (rs : List PortReply) :
    ∃ rs', stepsAfter ins.length (.next (s.withPort ins rs)) =
      mapNext (.withPort [] rs') (runSeq (ins.count .pass) s) := by
  induction ins generalizing s rs with
  | nil => exact ⟨rs, rfl⟩
  | cons a rest ih =>
    have ih := ih fun b hb => hins b (List.mem_cons_of_mem a hb)
    rcases hins a List.mem_cons_self with rfl | ⟨c, rfl⟩
    · rw [List.count_cons_self]
      have hstep : step (s.withPort (.pass :: rest) rs) = ownStep (s.withPort rest rs) := rfl
      have hq := seqStep_lands (ins := rest) (rs := rs) (s := s)
      rw [List.length_cons, stepsAfter_next, hstep, ownStep]
      generalize hr : seqStep s = r, seqStep (s.withPort rest rs) = r' at hq
      cases hq with
      | moved t =>
        rw [runSeq_moved hr]
        exact ih t rs
      | stay =>
        rw [runSeq_stay hr, ← runSeq_stay (n := rest.count .pass) hr]
        exact ih s rs
      | fault f =>
        rw [runSeq_fault hr]
        exact ⟨rs, stepsAfter_fault _ _⟩
    · rw [List.count_cons_of_ne (by simp)]
      exact ih s (rs ++ [readRegister c (s.withPort rest rs)])

/-! ### The unit operations -/

theorem whenIdle_withPort {k k' : Host.Outcome State Fault Refusal} (hk : k' = mapNext (.withPort ins rs) k) :
    whenIdle (s.withPort ins rs) k' = mapNext (.withPort ins rs) (whenIdle s k) := by
  unfold whenIdle
  rw [withPort_busy]
  split
  · rfl
  · exact hk

theorem deliverVerified_withPort (r : VerifyResult) :
    deliverVerified r (s.withPort ins rs) = (deliverVerified r s).withPort ins rs := by
  cases r with
  | ok p st => rfl
  | error e => simp only [deliverVerified, setError_withPort]; rfl

theorem UnitResult.unitOperation (h : UnitResult s i t) : unitOperation i = true := by cases h <;> rfl

/-- A unit operation ends in its one step, whatever inputs are to come. -/
theorem exec_unit_withPort (hu : unitOperation i = true) :
    exec i (s.withPort ins rs) = mapNext (.withPort ins rs) (exec i s) := by
  cases i
  case crc16 | stdec => exact whenIdle_withPort rfl
  case crcchk | encode =>
    refine whenIdle_withPort ?_
    rw [apply_ite (mapNext (.withPort ins rs))]
    rfl
  case verify buf =>
    refine whenIdle_withPort ?_
    have hacc : accept .verify (s.withPort ins rs) = (accept .verify s).withPort ins rs := rfl
    rw [responseStep_accept_verify, responseStep_accept_verify]
    simp only [mapNext, ← deliverVerified_withPort, ← verifyWrites_withPort]
    rfl
  all_goals cases hu

/-! ### The same end -/

/-- The second outcome is the first but for what the register port has returned, unless the first is a refusal. -/
def SameEnd (o o' : Host.Outcome State Fault Refusal) : Prop :=
  (∀ t, o = .next t → ∃ t', o' = .next t' ∧ { t' with portReplies := t.portReplies } = t) ∧
    ∀ f, o = .fault f → o' = .fault f

theorem SameEnd.of_refused {o o' : Host.Outcome State Fault Refusal} {r : Refusal} (h : o = .refused r) :
    SameEnd o o' :=
  ⟨fun _ ht => (by cases h.symm.trans ht), fun _ hf => (by cases h.symm.trans hf)⟩

theorem SameEnd.refl (o : Host.Outcome State Fault Refusal) : SameEnd o o := ⟨fun t ht => ⟨t, ht, rfl⟩, fun _ hf => hf⟩

theorem sameEnd_mapNext {o : Host.Outcome State Fault Refusal} (hin : ∀ t, o = .next t → t.inputs = [])
    (rs : List PortReply) : SameEnd o (mapNext (.withPort [] rs) o) := by
  refine ⟨fun t ht => ?_, fun f hf => ?_⟩
  · refine ⟨t.withPort [] rs, by rw [ht]; rfl, ?_⟩
    change { t with inputs := [] } = t
    rw [← hin t ht]
  · rw [hf]; rfl

/-- An operation that is accepted at `u`, and that a run of the sequencer from `u` ends, ends the same with register
reads between its steps. -/
theorem sameEnd_stepsAfter {o o' : Host.Outcome State Fault Refusal}
    (hins : ∀ a ∈ ins, a = .pass ∨ ∃ c, a = .regRead c) (hin : ∀ t, o = .next t → t.inputs = [])
    (ho : o = runSeq (ins.count .pass) u) (ho' : o' = .next (u.withPort ins rs)) :
    SameEnd o (stepsAfter ins.length o') := by
  obtain ⟨rs', hafter⟩ := stepsAfter_withPort hins u rs
  rw [ho', hafter, ← ho]
  exact sameEnd_mapNext hin rs'

/-- Every host operation ends the same with register reads between its steps, if there are passes enough for them. -/
theorem exec_sameEnd (hi : channelOf i = .hostRequest) (hs : s.inputs = []) :
    ∃ enough : Nat, ∀ ins : List Input, (∀ a ∈ ins, a = .pass ∨ ∃ c, a = .regRead c) → enough ≤ ins.count .pass →
      SameEnd (exec i s) (stepsAfter ins.length (exec i (s.withPort ins s.portReplies))) := by
  have hin : ∀ t, exec i s = .next t → t.inputs = [] := fun t ht => (exec_frame ht).inputs.trans hs
  rcases exec_request_cases hi s with ⟨r, e⟩ | ⟨-, t, ht, e⟩ | ⟨hb, u, hu, e⟩
  · exact ⟨0, fun _ _ _ => .of_refused e⟩
  · refine ⟨0, fun ins hins _ => sameEnd_stepsAfter (u := t) (rs := s.portReplies) hins hin ?_ ?_⟩
    · rw [e, runSeq_stay (seqStep_not_busy ht.frame.quiet.1)]
    · rw [exec_unit_withPort ht.unitOperation, e]
      rfl
  · refine ⟨stepBudget u, fun ins hins hcount => ?_⟩
    cases ins with
    | nil =>
      have hsame : s.withPort [] s.portReplies = s := by rw [State.withPort, ← hs]
      rw [hsame]
      exact .refl _
    | cons a rest =>
      refine sameEnd_stepsAfter hins hin ?_ ((hu.withPort _ _).exec_pending hb (List.cons_ne_nil a rest))
      rw [e, runOperation_no_input (hu.inputs.trans hs), runSeq_eq_of_le hu.stepsLeft_lt hcount]

/-- Settles O55: at its first step an operation has fewer steps left than its budget, and no step sees the inputs or the
port's replies. -/
theorem inputsLandBetweenSteps : Obligations.InputsLandBetweenSteps := by
  refine ⟨fun s w h opc p1 p2a p2b data text hb hin hd => ?_, fun i s hi => ?_⟩
  · exact ⟨FirstStep.wake.exec_pending hb hin, FirstStep.sleep.exec_pending hb hin, FirstStep.idle.exec_pending hb hin,
      (FirstStep.execute w opc p1 p2a p2b data hd).exec_pending hb hin, FirstStep.idread.exec_pending hb hin,
      FirstStep.selftest.exec_pending hb hin, (FirstStep.sha256 h text).exec_pending hb hin⟩
  · exact exec_sameEnd (s := { s with inputs := [] }) hi rfl

end Sys2Proof.Machine
end

section
/-! The bit-serial register: its bit step on naturals (R141, R144), linearity over exclusive-or, what a difference in the
register or in one bit of the input leads to (R147), and zero bytes (R145). -/

namespace Sys2Proof

/-! ### The register as a number -/

theorem toNat_div_eq_toNat_getLsbD (r : Word16) : r.toNat / 32768 = (r.getLsbD 15).toNat := by
  have hbit : (r.getLsbD 15).toNat = r.toNat / 2 ^ 15 % 2 := Nat.toNat_testBit ..
  have hlt := r.isLt
  omega

/-- The bit step on naturals (R141): bit 15 is `reg / 32768`, the shift drops what passes 16 bits. -/
def natCrcBit (reg dataBit : Nat) : Nat :=
  if dataBit ≠ reg / 32768 then (2 * reg % 65536) ^^^ 0x8005 else 2 * reg % 65536

theorem natCrcBit_toNat (r : Word16) (d : Bool) : natCrcBit r.toNat d.toNat = (crcBit r d).toNat := by
  have hshift : (r <<< 1).toNat = 2 * r.toNat % 65536 := by
    rw [BitVec.toNat_shiftLeft, Nat.shiftLeft_eq, Nat.mul_comm]
  have hcompare : d.toNat ≠ (r.getLsbD 15).toNat ↔ (d != r.getLsbD 15) = true := by
    cases d <;> cases r.getLsbD 15 <;> decide
  rw [natCrcBit, toNat_div_eq_toNat_getLsbD, crcBit, if_congr hcompare rfl rfl, apply_ite BitVec.toNat,
    BitVec.toNat_xor, hshift]
  rfl

/-- The bits of a byte as numbers, least significant first (R142). -/
theorem map_div_two_pow_eq_bitsLsbFirst (b : Byte) :
    (List.range 8).map (fun i => b.toNat / 2 ^ i % 2) = (bitsLsbFirst b).map Bool.toNat := by
  have hbit : ∀ i, b.toNat / 2 ^ i % 2 = (b.getLsbD i).toNat := fun i => (Nat.toNat_testBit ..).symm
  simp only [hbit]
  rfl

/-- The register of a byte sequence as a number: the bit step on naturals, repeated over the bits as numbers. -/
theorem foldl_natCrcBit (s : Bytes) :
    (s.flatMap fun b => (List.range 8).map fun i => b.toNat / 2 ^ i % 2).foldl natCrcBit 0 = (crcReg s).toNat := by
  simp only [map_div_two_pow_eq_bitsLsbFirst, ← List.map_flatMap]
  rw [List.foldl_map, crcReg, crcBits_eq_foldl]
  exact List.foldl_hom (g₂ := fun n d => natCrcBit n (Bool.toNat d)) (init := 0#16) BitVec.toNat natCrcBit_toNat

theorem crcOut_eq_ofNat (r : Word16) : crcOut r = [BitVec.ofNat 8 (r.toNat % 256), BitVec.ofNat 8 (r.toNat / 256)] := by
  have hlow : r.extractLsb' 0 8 = BitVec.ofNat 8 (r.toNat % 256) := by
    apply BitVec.eq_of_toNat_eq
    simp
  have hhigh : r.extractLsb' 8 8 = BitVec.ofNat 8 (r.toNat / 256) := by
    apply BitVec.eq_of_toNat_eq
    simp [Nat.shiftRight_eq_div_pow]
  rw [crcOut, hlow, hhigh]

/-- The two output bytes hold the whole register. -/
theorem crcOut_injective : Function.Injective crcOut := by
  intro r r' h
  simp only [crcOut_eq_ofNat, List.cons.injEq, and_true] at h
  obtain ⟨hlow, hhigh⟩ := h
  bv_omega

/-! ### Linearity over exclusive-or -/

/-- What a bit step adds to the shifted register after the comparison of R141. -/
def crcFeedback (differ : Bool) : Word16 := if differ then Config.poly else 0#16

theorem crcFeedback_xor (c c' : Bool) : crcFeedback (c ^^ c') = crcFeedback c ^^^ crcFeedback c' := by
  cases c <;> cases c' <;> decide

/-- `POLY` has bit 0 set. -/
theorem crcFeedback_bit_zero (c : Bool) : (crcFeedback c).getLsbD 0 = c := by
  cases c <;> decide

theorem crcBit_eq (r : Word16) (d : Bool) : crcBit r d = (r <<< 1) ^^^ crcFeedback (d ^^ r.getLsbD 15) := by
  rw [crcBit, crcFeedback, Bool.bne_eq_xor]
  split
  · rfl
  · exact BitVec.xor_zero.symm

theorem crcBit_xor (r r' : Word16) (d d' : Bool) : crcBit (r ^^^ r') (d ^^ d') = crcBit r d ^^^ crcBit r' d' := by
  have hcompare : ((d ^^ d') ^^ (r ^^^ r').getLsbD 15) = ((d ^^ r.getLsbD 15) ^^ (d' ^^ r'.getLsbD 15)) := by
    rw [BitVec.getLsbD_xor, Bool.xor_assoc, Bool.xor_left_comm d', ← Bool.xor_assoc]
  rw [crcBit_eq, crcBit_eq, crcBit_eq, hcompare, crcFeedback_xor, BitVec.shiftLeft_xor_distrib]
  ac_rfl

theorem crcBits_xor (r r' : Word16) {ds es : List Bool} (h : ds.length = es.length) :
    crcBits (r ^^^ r') (List.zipWith xor ds es) = crcBits r ds ^^^ crcBits r' es := by
  simp only [crcBits_eq_foldl]
  induction ds generalizing r r' es with
  | nil =>
    cases List.length_eq_zero_iff.1 h.symm
    rfl
  | cons d ds ih =>
    obtain ⟨e, es, rfl⟩ := List.exists_cons_of_length_eq_add_one h.symm
    rw [List.zipWith_cons_cons, List.foldl_cons, crcBit_xor]
    exact ih _ _ (Nat.succ.inj h)

theorem bitsLsbFirst_xor (a b : Byte) :
    bitsLsbFirst (a ^^^ b) = List.zipWith xor (bitsLsbFirst a) (bitsLsbFirst b) := by
  simp [bitsLsbFirst]

theorem flatMap_bitsLsbFirst_xor {a b : Bytes} (h : a.length = b.length) :
    (List.zipWith (· ^^^ ·) a b).flatMap bitsLsbFirst =
      List.zipWith xor (a.flatMap bitsLsbFirst) (b.flatMap bitsLsbFirst) := by
  induction a generalizing b with
  | nil => rfl
  | cons x a ih =>
    obtain ⟨y, b, rfl⟩ := List.exists_cons_of_length_eq_add_one h.symm
    simp only [List.zipWith_cons_cons, List.flatMap_cons, bitsLsbFirst_xor, ih (Nat.succ.inj h)]
    exact (List.zipWith_append (l₁ := bitsLsbFirst x) (l₂ := bitsLsbFirst y) rfl).symm

theorem crcReg_xor {a b : Bytes} (h : a.length = b.length) :
    crcReg (List.zipWith (· ^^^ ·) a b) = crcReg a ^^^ crcReg b := by
  rw [crcReg, flatMap_bitsLsbFirst_xor h]
  exact crcBits_xor 0#16 0#16 (by simp [List.length_flatMap, h])

/-! ### What a difference leads to -/

/-- The shift brings in a zero, so bit 0 of the next register is the comparison. -/
theorem crcBit_bit_zero (r : Word16) (d : Bool) : (crcBit r d).getLsbD 0 = (d ^^ r.getLsbD 15) := by
  rw [crcBit_eq, BitVec.getLsbD_xor, crcFeedback_bit_zero, BitVec.getLsbD_shiftLeft]
  simp

/-- Bit 0 of the next register tells bit 15 of the register before, and the other bits its bits 0 to 14. -/
theorem crcBit_injective (d : Bool) : Function.Injective (crcBit · d) := by
  intro r r' h
  have htop : r.getLsbD 15 = r'.getLsbD 15 := by
    have hzero := congrArg (BitVec.getLsbD · 0) h
    simpa only [crcBit_bit_zero, Bool.xor_right_inj] using hzero
  have hshift : r <<< 1 = r' <<< 1 := by
    simpa only [crcBit_eq, htop, BitVec.xor_left_inj] using h
  have hdiv : r.toNat / 32768 = r'.toNat / 32768 := by rw [toNat_div_eq_toNat_getLsbD, toNat_div_eq_toNat_getLsbD, htop]
  bv_omega

/-- Two registers that differ still differ after the same bits. -/
theorem crcBits_injective (ds : List Bool) : Function.Injective (crcBits · ds) := by
  intro r r' h
  simp only [crcBits_eq_foldl] at h
  induction ds generalizing r r' with
  | nil => exact h
  | cons d ds ih => exact crcBit_injective d (ih h)

/-- A byte with one bit set, from the zero register, leaves a register that is not zero. -/
theorem crcBits_single_bit_ne_zero (k : Fin 8) : crcBits 0#16 (bitsLsbFirst (1#8 <<< k.val)) ≠ 0#16 := by
  revert k
  decide

theorem crcBits_flip_ne (r : Word16) (b : Byte) (k : Fin 8) :
    crcBits r (bitsLsbFirst (b ^^^ (1#8 <<< k.val))) ≠ crcBits r (bitsLsbFirst b) := by
  intro h
  have hxor := crcBits_xor r 0#16 (ds := bitsLsbFirst b) (es := bitsLsbFirst (1#8 <<< k.val)) rfl
  rw [← bitsLsbFirst_xor, BitVec.xor_zero, h] at hxor
  exact crcBits_single_bit_ne_zero k (by simpa using hxor.symm)

theorem crcReg_append_cons (s t : Bytes) (b : Byte) :
    crcReg (s ++ b :: t) = crcBits (crcBits (crcReg s) (bitsLsbFirst b)) (t.flatMap bitsLsbFirst) := by
  rw [crcReg_append, List.flatMap_cons, crcBits_append]

theorem crc16_flip_ne (before after : Bytes) (b : Byte) (k : Fin 8) :
    crc16 (before ++ (b ^^^ (1#8 <<< k.val)) :: after) ≠ crc16 (before ++ b :: after) := by
  intro h
  have hreg := crcOut_injective h
  rw [crcReg_append_cons, crcReg_append_cons] at hreg
  exact crcBits_flip_ne _ b k (crcBits_injective _ hreg)

/-! ### Zero bytes (R145) -/

/-- A zero byte leaves the zero register as it is. -/
theorem crcReg_zero_cons (s : Bytes) : crcReg (0x00#8 :: s) = crcReg s := by
  rw [crcReg, List.flatMap_cons, crcBits_append]
  rfl

theorem crcReg_replicate_zero_append (n : Nat) (s : Bytes) :
    crcReg (List.replicate n 0x00#8 ++ s) = crcReg s := by
  induction n with
  | zero => rfl
  | succ n ih => rw [List.replicate_succ, List.cons_append, crcReg_zero_cons, ih]

end Sys2Proof
end

section
/-! The statements about the CRC unit (40_checksum.md). -/

namespace Sys2Proof.Machine

theorem exec_crc16 {s : State} (hb : s.busy = false) (bytes : Bytes) :
    exec (.crc16 bytes) s =
      .next (deliver (.ok (.bytes (crc16 bytes))) { accept .crc16 s with crc := crcReg bytes }) :=
  whenIdle_not_busy hb _

theorem exec_crcchk {s : State} (hb : s.busy = false) {buf : Bytes} (hl : 2 ≤ buf.length) :
    exec (.crcchk buf) s =
      .next (deliver (.ok (.bool (crcOk buf))) { accept .crcchk s with crc := crcReg (frameBody buf) }) :=
  (whenIdle_not_busy hb _).trans (if_pos hl)

theorem exec_crcchk_short {s : State} (hb : s.busy = false) {buf : Bytes} (hl : buf.length < 2) :
    exec (.crcchk buf) s = .refused (.badRequest .missingOperands) :=
  (whenIdle_not_busy hb _).trans (if_neg (Nat.not_le.2 hl))

/-- Settles O1: the fold on naturals is the register as a number, and its two bytes are the output form. -/
theorem crc16DeliversTheBitSerialRegister : Obligations.Crc16DeliversTheBitSerialRegister := by
  intro bytes s hb bits reg
  have hreg : reg = (crcReg bytes).toNat := foldl_natCrcBit bytes
  rw [hreg, ← crcOut_eq_ofNat, BitVec.ofNat_toNat, BitVec.setWidth_eq]
  exact exec_crc16 hb bytes

/-- Settles O3: a flipped bit makes the registers differ at its byte, and the bytes after it keep them apart. -/
theorem singleBitFlipsAndLinearity : Obligations.SingleBitFlipsAndLinearity :=
  ⟨crc16_flip_ne, fun _ _ => crcReg_xor⟩

/-- Settles O2: `body` and `[k0, k1]` are the two parts the buffer is split into. -/
theorem crcchkComparesTheLastTwoBytes : Obligations.CrcchkComparesTheLastTwoBytes := by
  refine ⟨fun body k0 k1 s hb => ?_, fun buf s hb hl => ⟨_, exec_crcchk_short hb hl⟩⟩
  rw [exec_crcchk hb (by simp), crcOk, frameBody_append body rfl, frameCheckBytes_append body rfl, beq_eq_decide]

/-- Settles O4: the register is zero before the first byte and after each zero byte. -/
theorem leadingZeroBytesAreInvisible : Obligations.LeadingZeroBytesAreInvisible :=
  ⟨rfl, fun n s => congrArg crcOut (crcReg_replicate_zero_append n s)⟩

end Sys2Proof.Machine
end

section
/-! The packet framer (41_packet_codec.md): the fields of a Command Frame, the checks of `verify` one by one, and what
`verify` writes and answers after each. -/

namespace Sys2Proof

/-! ### The Command Frame (R101, R160, R161) -/

/-- The count byte does not wrap for the data a frame can have (R102, R16 (b)). -/
theorem countByte_toNat {n : Nat} (h : n ≤ 248) : (countByte n).toNat = 7 + n := by
  rw [countByte, BitVec.toNat_ofNat]
  exact Nat.mod_eq_of_lt (show 7 + n < 256 by omega)

theorem data_of_commandFrame (opc p1 p2a p2b : Byte) (data : Bytes) :
    ((commandFrame opc p1 p2a p2b data).drop 5).take ((commandFrame opc p1 p2a p2b data).length - 7) = data := by
  rw [commandFrame_length, Nat.add_sub_cancel_left]
  exact List.take_left

/-- The last two bytes of a frame are the checksum of the rest (R103). -/
theorem frameCheckBytes_commandFrame (opc p1 p2a p2b : Byte) (data : Bytes) :
    frameCheckBytes (commandFrame opc p1 p2a p2b data) = crc16 (frameBody (commandFrame opc p1 p2a p2b data)) :=
  (beq_iff_eq.1 (Machine.crcOk_commandFrame opc p1 p2a p2b data)).symm

/-- Framing is injective: the two checksum bytes split off, and the body lists the fields. -/
theorem commandFrame_injective {opc p1 p2a p2b opc' p1' p2a' p2b' : Byte} {data data' : Bytes}
    (h : commandFrame opc p1 p2a p2b data = commandFrame opc' p1' p2a' p2b' data') :
    opc = opc' ∧ p1 = p1' ∧ p2a = p2a' ∧ p2b = p2b' ∧ data = data' := by
  have hbody : commandBody opc p1 p2a p2b data = commandBody opc' p1' p2a' p2b' data' := (List.append_inj' h rfl).1
  simp only [commandBody, List.cons_append, List.nil_append, List.cons.injEq] at hbody
  exact hbody.2

/-! ### The checks of `verify` in their order (R165 to R168, R284) -/

theorem crcOk_iff (buf : Bytes) : crcOk buf = true ↔ crc16 (frameBody buf) = frameCheckBytes buf := beq_iff_eq

theorem checkResponse_short {buf : Bytes} (h : buf.length < 4) : checkResponse buf = .malformed := if_pos h

theorem checkResponse_badChecksum {buf : Bytes} (h : 4 ≤ buf.length) (hcrc : ¬ crcOk buf = true) :
    checkResponse buf = .badChecksum :=
  (if_neg (Nat.not_lt.2 h)).trans (if_pos (Bool.eq_false_of_not_eq_true hcrc))

theorem checkResponse_status {buf : Bytes} (h : buf.length = 4) (hcrc : crcOk buf = true) :
    checkResponse buf = .status (buf.getD 1 0#8) :=
  (checkResponse_of_crcOk hcrc h.ge).trans (if_pos h)

theorem checkResponse_data {buf : Bytes} (h : 4 < buf.length) (hcrc : crcOk buf = true) :
    checkResponse buf = .data (payloadOf buf) :=
  (checkResponse_of_crcOk hcrc h.le).trans (if_neg h.ne')

/-- Only a 4-byte frame has its status byte taken (R167). -/
theorem length_of_checkResponse_status {buf : Bytes} {b : Byte} (h : checkResponse buf = .status b) :
    buf.length = 4 := by
  unfold checkResponse at h
  split_ifs at h with _ _ hlen
  exact hlen

/-- The numeric test of R183 in words. -/
theorem escalates_iff (b : Byte) : escalates b = true ↔ (1 ≤ b.toNat ∧ b.toNat ≤ 15) ∨ b.toNat = 255 := by
  simp only [escalates, Bool.and_eq_true, Bool.or_eq_true, bne_iff_ne, beq_iff_eq, decide_eq_true_eq, ne_eq,
    BitVec.toNat_eq, BitVec.toNat_ofNat]
  omega

end Sys2Proof

namespace Sys2Proof.Machine

variable {s : State}

/-! ### What `verify` writes and answers after each check (R164) -/

/-- The state with the checksum of the received body in `CRC` (R164). -/
def checksummed (s : State) : State := { s with crc := crcReg (frameBody s.rxbuf) }

theorem verifyWrites_malformed (h : checkResponse s.rxbuf = .malformed) : verifyWrites s = s := by
  rw [verifyWrites, h]

theorem verifyWrites_badChecksum (h : checkResponse s.rxbuf = .badChecksum) :
    verifyWrites s =
      { checksummed s with status := if s.rxbuf.length = Config.minResp then none else s.status } := by
  rw [verifyWrites, h]
  rfl

theorem verifyWrites_status {b : Byte} (h : checkResponse s.rxbuf = .status b) :
    verifyWrites s = writeStatus (stdec s.par.statusMap b) b (checksummed s) := by
  rw [verifyWrites, h]
  rfl

theorem verifyWrites_data {p : Bytes} (h : checkResponse s.rxbuf = .data p) :
    verifyWrites s = checksummed s := by
  rw [verifyWrites, h]
  rfl

theorem statusResult_unknown {st : Status} (hst : st = .unknown) (b : Byte) :
    statusResult st b = .error (.unknownStatus b) := if_pos hst

theorem statusResult_escalated {st : Status} {b : Byte} (hst : st ≠ .unknown) (he : escalates b = true) :
    statusResult st b = .error (.deviceError b (reasonText st)) :=
  (if_neg hst).trans (if_pos he)

theorem statusResult_ok {st : Status} {b : Byte} (hst : st ≠ .unknown) (he : ¬ escalates b = true) :
    statusResult st b = .ok [b] (some st) :=
  (if_neg hst).trans (if_neg he)

theorem verifyResult_malformed {m : StatusMap} {buf : Bytes} (h : checkResponse buf = .malformed) :
    verifyResult m buf = .error .malformedFrame := by
  rw [verifyResult, h]

theorem verifyResult_badChecksum {m : StatusMap} {buf : Bytes} (h : checkResponse buf = .badChecksum) :
    verifyResult m buf = .error .checksumMismatch := by
  rw [verifyResult, h]

theorem verifyResult_status {m : StatusMap} {buf : Bytes} {b : Byte} (h : checkResponse buf = .status b) :
    verifyResult m buf = statusResult (stdec m b) b := by
  rw [verifyResult, h]

theorem verifyResult_data {m : StatusMap} {buf p : Bytes} (h : checkResponse buf = .data p) :
    verifyResult m buf = .ok p none := by
  rw [verifyResult, h]

end Sys2Proof.Machine
end

section
/-! The host operations ENCODE and VERIFY, and the statements about them (R160 to R168). -/

namespace Sys2Proof.Machine

variable {s : State}

theorem exec_encode (hb : s.busy = false) (opc p1 p2a p2b : Byte) {data : Bytes} (hd : data.length ≤ 248) :
    exec (.encode opc p1 p2a p2b data) s =
      .next (deliver (.ok (.bytes (commandFrame opc p1 p2a p2b data)))
        (encodeFrame (loadOperands opc p1 p2a p2b data (accept .encode s)))) :=
  (whenIdle_not_busy hb _).trans (if_pos hd)

theorem exec_verify (hb : s.busy = false) (buf : Bytes) :
    exec (.verify buf) s =
      .next (deliverVerified (verifyResult s.par.statusMap buf)
        (verifyWrites { accept .verify s with rxbuf := buf })) :=
  (whenIdle_not_busy hb _).trans (responseStep_accept_verify buf s)

/-- Settles O6: the fields of a frame, and that they can be read back from it. -/
theorem framePropertiesAndInjectivity : Obligations.FramePropertiesAndInjectivity := by
  refine ⟨fun opc p1 p2a p2b data hd => ?_, fun opc p1 p2a p2b => ⟨rfl, rfl⟩,
    fun _ _ _ _ _ _ _ _ _ _ _ _ h => commandFrame_injective h⟩
  have hcount : some (countByte data.length).toNat = some (commandFrame opc p1 p2a p2b data).length := by
    rw [countByte_toNat hd, commandFrame_length]
  exact ⟨commandFrame_length .., hcount, rfl, rfl, rfl, data_of_commandFrame .., frameCheckBytes_commandFrame ..⟩

/-- Settles O5: ENCODE's next state, field by field. -/
theorem encodeDeliversTheFrame : Obligations.EncodeDeliversTheFrame :=
  fun opc p1 p2a p2b _ _ hb hd => exec_encode hb opc p1 p2a p2b hd

/-- Settles O7: on each buffer one check decides, and it fixes what `verify` writes and answers. -/
theorem verifyChecksInOrder : Obligations.VerifyChecksInOrder := by
  intro buf s hb st escalated good base summed statused
  have hgood : good ↔ crcOk buf = true := (crcOk_iff buf).symm
  have hesc : escalated ↔ escalates (buf.getD 1 0#8) = true := (escalates_iff _).symm
  rw [exec_verify hb buf, hgood, hesc]
  have hstatus (hl : buf.length = 4) (hcrc : crcOk buf = true) : verifyWrites base = statused :=
    verifyWrites_status (s := base) (checkResponse_status hl hcrc)
  refine ⟨fun hl => ?_, fun hl hcrc => ?_, fun hl hcrc hst => ?_, fun hl hcrc hst he => ?_, fun hl hcrc hst he => ?_,
    fun hl hcrc => ?_⟩
  · have hc := checkResponse_short hl
    rw [verifyResult_malformed hc, verifyWrites_malformed (s := base) hc]
    rfl
  · have hc := checkResponse_badChecksum hl hcrc
    have hnone : (if buf.length = Config.minResp then none else base.status) = none := ite_self _
    rw [verifyResult_badChecksum hc, verifyWrites_badChecksum (s := base) hc, hnone]
    rfl
  · rw [verifyResult_status (checkResponse_status hl hcrc), hstatus hl hcrc, statusResult_unknown hst]
    rfl
  · rw [verifyResult_status (checkResponse_status hl hcrc), hstatus hl hcrc, statusResult_escalated hst he]
    rfl
  · rw [verifyResult_status (checkResponse_status hl hcrc), hstatus hl hcrc, statusResult_ok hst he]
    rfl
  · have hc := checkResponse_data hl hcrc
    rw [verifyResult_data hc, verifyWrites_data (s := base) hc]
    rfl

end Sys2Proof.Machine
end

section
/-! The Response Frame rows at `X_VERIFY`, what the verifying steps of the sequencer write to `STATUS` and `STB`, and
the statements about both (R35, R167, R168, R229). -/

namespace Sys2Proof.Machine

variable {s t : State}

/-! ### The result of `verify` at `X_VERIFY` (R229) -/

/-- What the end of an EXECUTE's verification records: its error, if it is one. -/
def recordVerified (r : VerifyResult) (s : State) : State :=
  match r with
  | .ok _ _ => s
  | .error e => setError e s

theorem recordVerified_eq (r : VerifyResult) (s : State) :
    ∃ k i v, recordVerified r s = { s with err := k, errInfo := i, errBus := v } := by
  cases r with
  | ok p st => exact ⟨_, _, _, rfl⟩
  | error e => cases e <;> exact ⟨_, _, _, rfl⟩

/-- Whatever the result at `X_VERIFY`, control goes to `X_EXIT` (R229, R290 (c)). -/
theorem finishVerify_execute (hw : s.seq.w ≠ .wVerify) (hx : s.seq.x = .xVerify) (r : VerifyResult) :
    finishVerify r s = .moved (enterExit (recordVerified r s)) := by
  cases r with
  | ok p st => exact finishVerify_execute_ok hw hx p st
  | error e =>
    rw [finishVerify_execute_error hw hx]
    simp only [raise, setError_seq, hx]
    rfl

/-! ### The rows on the wire at `X_VERIFY` -/

theorem checkResponse_responseFrame_one (count b : Byte) : checkResponse (responseFrame count [b]) = .status b :=
  checkResponse_status rfl (crcOk_responseFrame count [b])

theorem checkResponse_responseFrame (count : Byte) {payload : Bytes} (h : 2 ≤ payload.length) :
    checkResponse (responseFrame count payload) = .data payload := by
  rw [checkResponse_data (by simp; omega) (crcOk_responseFrame ..), payloadOf_responseFrame]

theorem frameBody_responseFrame (count : Byte) (payload : Bytes) :
    frameBody (responseFrame count payload) = count :: payload := frameBody_append (count :: payload) rfl

/-- A frame received at `X_VERIFY` is verified, and control goes to `X_EXIT` (R229). -/
theorem responseStep_execute (hw : s.seq.w ≠ .wVerify) (hx : s.seq.x = .xVerify) (buf : Bytes) :
    responseStep buf s =
      .next (enterExit
        (recordVerified (verifyResult s.par.statusMap buf) (verifyWrites { s with rxbuf := buf }))) := by
  rw [responseStep, verifyStep, finishVerify_execute (by simpa using hw) (by simpa using hx)]
  rfl

/-- A status byte interpreted at `X_VERIFY` is written, and control goes to `X_EXIT` (R167, R229). -/
theorem statusStep_execute (hw : s.seq.w ≠ .wVerify) (hx : s.seq.x = .xVerify) (st : Status) (b : Byte) :
    statusStep st b s = .next (enterExit (recordVerified (statusResult st b) (writeStatus st b s))) := by
  rw [statusStep, finishVerify_execute (s := writeStatus st b s) hw hx]
  rfl

/-- Every status byte is interpreted by its row (R167, R181, R182). -/
theorem exec_decodeStatus (b : Byte) (s : State) :
    exec (decodeStatus s.par b) s = statusStep (stdec s.par.statusMap b) b s := by
  have hb := statusByte_stdec (m := s.par.statusMap) (b := b)
  unfold decodeStatus
  cases hst : stdec s.par.statusMap b
  case unknown => rfl
  all_goals
    rw [hst] at hb
    cases hb nofun
    rfl

theorem checksummed_responseFrame (count : Byte) (payload : Bytes) (s : State) :
    checksummed { s with rxbuf := responseFrame count payload } =
      { s with rxbuf := count :: payload ++ crc16 (count :: payload), crc := crcReg (count :: payload) } := by
  rw [checksummed, frameBody_responseFrame]
  rfl

/-- A 4-byte Response Frame has its status byte written and interpreted, and control goes to `X_EXIT` (R167, R229). -/
theorem exec_respStatus_next (hw : s.seq.w ≠ .wVerify) (hx : s.seq.x = .xVerify) (count b : Byte) :
    exec (.respStatus count b) s =
      .next (enterExit (recordVerified (statusResult (stdec s.par.statusMap b) b)
        (writeStatus (stdec s.par.statusMap b) b (checksummed { s with rxbuf := responseFrame count [b] })))) := by
  have hc := checkResponse_responseFrame_one count b
  rw [← verifyResult_status hc, ← verifyWrites_status (s := { s with rxbuf := responseFrame count [b] }) hc]
  exact responseStep_execute hw hx (responseFrame count [b])

/-- Once it is received, a 4-byte Response Frame acts as its status byte (R167). -/
theorem exec_respStatus (hw : s.seq.w ≠ .wVerify) (hx : s.seq.x = .xVerify) (count b : Byte) :
    exec (.respStatus count b) s =
      exec (decodeStatus s.par b) (checksummed { s with rxbuf := responseFrame count [b] }) :=
  calc exec (.respStatus count b) s
    _ = statusStep (stdec s.par.statusMap b) b (checksummed { s with rxbuf := responseFrame count [b] }) :=
      (exec_respStatus_next hw hx count b).trans (statusStep_execute (by exact hw) (by exact hx) _ b).symm
    _ = exec (decodeStatus s.par b) (checksummed { s with rxbuf := responseFrame count [b] }) :=
      (exec_decodeStatus b _).symm

/-- A longer Response Frame is only received, whatever its payload (R168, R229). -/
theorem exec_respData (hw : s.seq.w ≠ .wVerify) (hx : s.seq.x = .xVerify) (count : Byte) {payload : Bytes}
    (h : 2 ≤ payload.length) :
    exec (.respData count payload) s =
      .next (enterExit (checksummed { s with rxbuf := responseFrame count payload })) := by
  have hc := checkResponse_responseFrame count h
  rw [← verifyWrites_data (s := { s with rxbuf := responseFrame count payload }) hc]
  refine (responseStep_execute hw hx (responseFrame count payload)).trans ?_
  rw [verifyResult_data hc]
  rfl

/-! ### `STATUS` and `STB` after the verifying steps (R35, R164) -/

/-- The two registers the status interpretation writes are the same (R164). -/
def SameStatus (s t : State) : Prop := t.status = s.status ∧ t.stb = s.stb

theorem endOperation_sameStatus (s : State) : SameStatus s (endOperation s) := by simp [SameStatus]

/-- Leaving an EXECUTE with an error starts no other exchange, so nothing is cleared (R245). -/
theorem leaveExecute_sameStatus (he : s.err ≠ .none) (h : leaveExecute s = .moved t) : SameStatus s t := by
  rcases leaveExecute_cases s with ⟨-, e⟩ | ⟨-, he', -⟩ | ⟨-, -, -, e⟩ | ⟨-, -, -, e⟩
  · cases e.symm.trans h
    exact endOperation_sameStatus _
  · exact absurd he' he
  · cases e.symm.trans h
    exact ⟨rfl, rfl⟩
  · cases e.symm.trans h
    exact endOperation_sameStatus _

theorem raise_sameStatus {e : OpError} (h : raise e s = .moved t) : SameStatus s t := by
  have hset : SameStatus (setError e s) t := by
    rcases raise_cases e s with ⟨-, er⟩ | ⟨-, er⟩ | ⟨-, -, er⟩
    · cases er.symm.trans h
      exact endOperation_sameStatus _
    · exact leaveExecute_sameStatus (setError_err_ne_none e s) (er.symm.trans h)
    · cases er.symm.trans h
      exact ⟨rfl, rfl⟩
  simpa [SameStatus] using hset

theorem wakeDone_sameStatus (s : State) : SameStatus s (wakeDone s) := by
  by_cases hx : s.seq.x = .xWake
  · rw [wakeDone_execute hx]
    exact ⟨rfl, rfl⟩
  · rw [wakeDone_host hx]
    split
    · exact endOperation_sameStatus _
    · exact ⟨rfl, rfl⟩

theorem enterExit_recordVerified_sameStatus (r : VerifyResult) (s : State) :
    SameStatus s (enterExit (recordVerified r s)) := by
  obtain ⟨k, i, v, hr⟩ := recordVerified_eq r s
  rw [hr]
  exact ⟨rfl, rfl⟩

/-- How the result goes on at `W_VERIFY` and `X_VERIFY` writes neither. -/
theorem finishVerify_sameStatus {r : VerifyResult} (hv : s.seq.w = .wVerify ∨ (s.seq.w = .off ∧ s.seq.x = .xVerify))
    (h : finishVerify r s = .moved t) : SameStatus s t := by
  rcases hv with hw | ⟨hw, hx⟩
  · by_cases hr : ∃ p, r = .ok p (some .afterWakeBeforeFirstCommand)
    · obtain ⟨p, rfl⟩ := hr
      cases (finishVerify_afterWake hw p).symm.trans h
      exact wakeDone_sameStatus s
    · exact raise_sameStatus ((finishVerify_wakeFailed hw (not_exists.1 hr)).symm.trans h)
  · cases (finishVerify_execute (by simp [hw]) hx r).symm.trans h
    exact enterExit_recordVerified_sameStatus r s

/-- Both verifying steps of the sequencer are `verify` on `RXBUF` (R204, R229). -/
theorem seqStep_verify (hv : s.seq.w = .wVerify ∨ (s.seq.w = .off ∧ s.seq.x = .xVerify))
    (h : seqStep s = .moved t) : verifyStep s = .moved t := by
  unfold seqStep at h
  split at h
  next =>
    rcases hv with hw | ⟨hw, hx⟩
    · simpa only [wStep, hw, wVerifyStep] using h
    · simpa only [wStep, xStep, hw, hx, xVerifyStep] using h
  next => cases h

/-- A verifying step leaves in `STATUS` and `STB` what `verify` writes. -/
theorem seqStep_verify_sameStatus (hv : s.seq.w = .wVerify ∨ (s.seq.w = .off ∧ s.seq.x = .xVerify))
    (h : seqStep s = .moved t) : SameStatus (verifyWrites s) t :=
  finishVerify_sameStatus (by simpa using hv) (seqStep_verify hv h)

/-- A frame that has not 4 bytes writes neither (R164, R168). -/
theorem verifyWrites_sameStatus (hl : s.rxbuf.length ≠ 4) : SameStatus s (verifyWrites s) := by
  cases hc : checkResponse s.rxbuf with
  | malformed =>
    rw [verifyWrites_malformed hc]
    exact ⟨rfl, rfl⟩
  | badChecksum =>
    rw [verifyWrites_badChecksum hc]
    exact ⟨if_neg hl, rfl⟩
  | status b => exact absurd (length_of_checkResponse_status hc) hl
  | data p =>
    rw [verifyWrites_data hc]
    exact ⟨rfl, rfl⟩

/-- Settles O11: the two rows, and for the sequencer's steps the three kinds of buffer. -/
theorem responseRowsAtTheResponse : Obligations.ResponseRowsAtTheResponse := by
  refine ⟨fun count b s hw hx => ?_, fun count payload s hw hx h => ?_, fun s t hv h => ?_⟩
  · rw [exec_respStatus (by simp [hw]) hx, checksummed_responseFrame]
  · rw [exec_respData (by simp [hw]) hx count h, checksummed_responseFrame]
  · intro good
    have hgood (hl : s.rxbuf.length = 4) : good ↔ crcOk s.rxbuf = true := by
      rw [crcOk_iff, frameBody, frameCheckBytes, hl]
    obtain ⟨hstatus, hstb⟩ := seqStep_verify_sameStatus hv h
    rw [hstatus, hstb]
    refine ⟨verifyWrites_sameStatus, fun hl hg => ?_, fun hl hg => ?_⟩
    · rw [verifyWrites_status (checkResponse_status hl ((hgood hl).1 hg))]
      exact ⟨rfl, rfl⟩
    · rw [verifyWrites_badChecksum (checkResponse_badChecksum hl.ge (mt (hgood hl).2 hg))]
      exact ⟨if_pos hl, rfl⟩

/-- Settles O12: the status byte is written, and its interpretation records at most an error. -/
theorem statusResponseCompletes : Obligations.StatusResponseCompletes := by
  intro count b s hw hx
  obtain ⟨k, i, v, hr⟩ := recordVerified_eq (statusResult (stdec s.par.statusMap b) b)
    (writeStatus (stdec s.par.statusMap b) b (checksummed { s with rxbuf := responseFrame count [b] }))
  refine ⟨_, exec_respStatus_next (by simp [hw]) hx count b, ?_⟩
  rw [hr, checksummed_responseFrame]
  exact ⟨rfl, rfl, rfl, rfl, rfl, rfl, rfl, ⟨rfl, rfl, rfl, rfl, rfl⟩, rfl, rfl, rfl, rfl⟩

end Sys2Proof.Machine
end

section
/-! The status decoder: STDEC, the status rows at `X_VERIFY`, and the statements about both (R180 to R184). -/

namespace Sys2Proof

variable {m : StatusMap} {b : Byte}

/-! ### The table and the decoder (R180, R181, R184) -/

/-- The enumeration index of a row is the place of its byte among the known ones (R181). -/
theorem getElem?_knownBytes (m : StatusMap) (row : Status) : (knownBytes m)[statusIndex row]? = statusByte m row := by
  cases row <;> rfl

theorem statusIndex_injective : Function.Injective statusIndex :=
  Function.LeftInverse.injective (g := Status.ofNat) fun row => by cases row <;> rfl

/-- The known bytes of a valid table are distinct (R184). -/
theorem knownBytes_nodup (hm : statusMapValid m = true) : (knownBytes m).Nodup := by
  simp only [statusMapValid, Bool.and_eq_true, decide_eq_true_eq] at hm
  obtain ⟨⟨⟨hnodup, -⟩, -⟩, -⟩ := hm
  exact hnodup

/-- No two rows of a valid table have the same byte. -/
theorem statusByte_inj {row row' : Status} (hm : statusMapValid m = true) (h : statusByte m row = some b)
    (h' : statusByte m row' = some b) : row = row' := by
  rw [← getElem?_knownBytes] at h h'
  obtain ⟨hlt, -⟩ := List.getElem?_eq_some_iff.1 h
  exact statusIndex_injective ((List.getElem?_inj hlt (knownBytes_nodup hm)).1 (h.trans h'.symm))

theorem stdec_eq_unknown_iff : stdec m b = .unknown ↔ b ∉ knownBytes m := by
  simp only [stdec, knownBytes]
  repeat' split
  all_goals simp_all

/-- `stdec` inverts a valid table (R180). -/
theorem stdec_of_statusByte {row : Status} (hm : statusMapValid m = true) (h : statusByte m row = some b) :
    stdec m b = row := by
  have hmem : b ∈ knownBytes m := List.mem_of_getElem? ((getElem?_knownBytes m row).trans h)
  exact statusByte_inj hm (statusByte_stdec fun hu => stdec_eq_unknown_iff.1 hu hmem) h

end Sys2Proof

namespace Sys2Proof.Machine

/-- Settles O8: the answer is `stdec`, which inverts a valid table. -/
theorem stdecDeliversTheTableRow : Obligations.StdecDeliversTheTableRow := by
  intro b s hb hm
  refine ⟨stdec s.par.statusMap b, whenIdle_not_busy hb _, fun row => stdec_of_statusByte hm, fun hnone => ?_⟩
  by_contra hst
  exact hnone _ (statusByte_stdec hst)

/-! ### The status rows at `X_VERIFY` (R181 to R183, R229) -/

variable {s : State} {st : Status}

/-- A known status is a DeviceError exactly when its byte escalates (R183). -/
theorem recordVerified_statusResult_known (hst : st ≠ .unknown) (b : Byte) (s : State) :
    recordVerified (statusResult st b) s =
      if (1 ≤ b.toNat ∧ b.toNat ≤ 15) ∨ b.toNat = 255 then { s with err := .deviceError, errInfo := b } else s := by
  by_cases he : escalates b = true
  · rw [statusResult_escalated hst he, if_pos ((escalates_iff b).1 he)]
    rfl
  · rw [statusResult_ok hst he, if_neg (mt (escalates_iff b).2 he)]
    rfl

theorem statusStep_execute_known (hw : s.seq.w = .off) (hx : s.seq.x = .xVerify) (hst : st ≠ .unknown) (b : Byte) :
    statusStep st b s =
      .next (enterExit (
        if (1 ≤ b.toNat ∧ b.toNat ≤ 15) ∨ b.toNat = 255 then
          { writeStatus st b s with err := .deviceError, errInfo := b }
        else writeStatus st b s)) := by
  rw [statusStep_execute (by simp [hw]) hx, recordVerified_statusResult_known hst]

/-- Settles O9: each row is the interpretation of its byte under its name. -/
theorem eachStatusRowByName : Obligations.EachStatusRowByName := by
  intro s hw hx
  refine ⟨fun row hmem => ?_, statusStep_execute (by simp [hw]) hx .unknown⟩
  have hrow : row.2.1 ≠ .unknown ∧ exec row.1 s = statusStep row.2.1 row.2.2 s := by
    simp only [List.mem_cons, List.not_mem_nil, or_false] at hmem
    rcases hmem with rfl | rfl | rfl | rfl | rfl | rfl | rfl | rfl | rfl | rfl <;> exact ⟨nofun, rfl⟩
  obtain ⟨hst, hexec⟩ := hrow
  exact hexec.trans (statusStep_execute_known hw hx hst row.2.2)

end Sys2Proof.Machine
end

section
/-! The end of an operation and of an EXECUTE inside one, and the run of a wake (R200 to R204, R230, R245, R286,
R291). -/

namespace Sys2Proof.Machine

variable {s t u : State} {i : Instr} {a : WrAnswer} {ws : List WrAnswer} {rs : List RdAnswer}

/-! ### The outcome an operation ends with (R286, R291) -/

theorem raisedError_eq_none_iff (s : State) : raisedError s = none ↔ s.err = .none := by
  cases he : s.err <;> simp [raisedError, he]

theorem endOperation_ok (he : s.err = .none) : endOperation s = deliver (.ok (okValue s)) s := by
  rw [endOperation, (raisedError_eq_none_iff s).2 he]

theorem endOperation_error {e : OpError} (he : raisedError s = some e) : endOperation s = deliver (.error e) s := by
  rw [endOperation, he]

theorem err_ne_none_of_raisedError {e : OpError} (he : raisedError s = some e) : s.err ≠ .none := by
  intro hnone
  cases ((raisedError_eq_none_iff s).2 hnone).symm.trans he

/-- The outcome is the error in the registers, or the ok-result. -/
theorem endOperation_cases (s : State) :
    ∃ o, endOperation s = deliver o s ∧ (s.err = .none → o = .ok (okValue s)) ∧
      ∀ e, raisedError s = some e → o = .error e := by
  cases he : raisedError s with
  | none =>
    have hnone := (raisedError_eq_none_iff s).1 he
    exact ⟨_, endOperation_ok hnone, fun _ => rfl, nofun⟩
  | some e =>
    exact ⟨_, endOperation_error he, fun hnone => absurd hnone (err_ne_none_of_raisedError he),
      fun e' h => congrArg _ (Option.some.inj h)⟩

/-- An error outside an EXECUTE ends the operation (R290 (a)). -/
theorem raise_outside (hx : s.seq.x = .off) (e : OpError) : raise e s = .moved (endOperation (setError e s)) := by
  simp only [raise, setError_seq, hx]

/-- An error in the wake of an EXECUTE ends that EXECUTE at once (R290 (b)). -/
theorem raise_inWake (hx : s.seq.x = .xWake) (e : OpError) : raise e s = leaveExecute (setError e s) := by
  simp only [raise, setError_seq, hx]

/-- The EXECUTE in progress is over (R230). -/
def executeDone (s : State) : State := { s with seq := ⟨s.seq.op, s.seq.l, .off, .off⟩ }

/-- An EXECUTE of the host returns by ending the operation (R220). -/
theorem leaveExecute_host (hl : s.seq.l = .off) : leaveExecute s = .moved (endOperation (executeDone s)) := by
  rcases leaveExecute_cases s with ⟨-, e⟩ | ⟨hl', -⟩ | ⟨hl', -⟩ | ⟨hl', -⟩
  · exact e
  all_goals exact absurd hl hl'

/-! ### What an EXECUTE leaves when it returns (R230, R241, R245) -/

/-- The fields that no way of returning from an EXECUTE writes; the schedule of the Idle stays clear. -/
structure ReturnKeeps (s t : State) : Prop where
  pwr : t.pwr = s.pwr := by simp
  idlep : s.idlep = false → t.idlep = false := by simp
  wrAns : t.wrAns = s.wrAns := by simp
  rdAns : t.rdAns = s.rdAns := by simp
  err : t.err = s.err := by simp
  errInfo : t.errInfo = s.errInfo := by simp
  msg : t.msg = s.msg := by simp
  hashText : t.hashText = s.hashText := by simp
  hashHex : t.hashHex = s.hashHex := by simp
  text : t.text = s.text := by simp

theorem enterUpdate_keeps (s : State) : ReturnKeeps s (enterUpdate s) := by
  unfold enterUpdate
  split
  · exact {}
  · exact {}

theorem libNext_keeps (h : libNext s = .moved t) : ReturnKeeps s t := by
  unfold libNext at h
  split at h <;> cases h
  case h_1 | h_2 | h_5 => exact {}
  case h_3 => exact enterUpdate_keeps s
  case h_4 => exact { enterUpdate_keeps { s with blk := s.blk + 1 } with }

theorem leaveExecute_keeps (h : leaveExecute s = .moved t) : ReturnKeeps s t := by
  rcases leaveExecute_cases s with ⟨-, e⟩ | ⟨-, -, e⟩ | ⟨-, -, -, e⟩ | ⟨-, -, -, e⟩
  · cases e.symm.trans h; exact {}
  · exact { libNext_keeps (e.symm.trans h) with }
  · cases e.symm.trans h; exact {}
  · cases e.symm.trans h; exact {}

/-! ### The next exchange of SHA256 (R258, R259) -/

@[simp] theorem enterUpdate_blk (s : State) : (enterUpdate s).blk = s.blk := by
  unfold enterUpdate; split <;> rfl

@[simp] theorem enterUpdate_busy (s : State) : (enterUpdate s).busy = s.busy := by
  unfold enterUpdate; split <;> rfl

@[simp] theorem enterUpdate_trace (s : State) : (enterUpdate s).trace = s.trace := by
  unfold enterUpdate; split <;> rfl

@[simp] theorem enterUpdate_seq (s : State) :
    (enterUpdate s).seq = ⟨s.seq.op, if s.blk < blockCount s.msg then .lUpdate else .lEnd, .xWake, .wWrite⟩ := by
  unfold enterUpdate; split <;> rfl

/-! ### An EXECUTE of a library operation returns (R241, R245, R247, R256) -/

/-- After its success the operation formats its output, or SHA256 has another exchange; an Update took one block more. -/
theorem libNext_of_inExecute (h : InExecute s) (hl : s.seq.l ≠ .off) :
    ((s.seq.op ≠ .sha256 ∨ s.seq.l = .lEnd) ∧ libNext s = .moved (enterFormat s)) ∨
      (s.seq.op = .sha256 ∧ s.seq.l ≠ .lEnd ∧
        libNext s = .moved (enterUpdate { s with blk := s.blk + if s.seq.l = .lUpdate then 1 else 0 })) := by
  cases h with
  | host _ hl' => exact absurd hl' hl
  | first hop hl' =>
    cases hop' : s.seq.op <;> simp only [libraryOp, hop', Bool.false_eq_true] at hop
    case idread | selftest => exact .inl ⟨.inl (by simp), by simp only [libNext, hop', hl']⟩
    case sha256 => exact .inr ⟨rfl, by simp [hl'], by simp [libNext, hop', hl']⟩
  | later hop hl' =>
    rcases hl' with hl' | hl'
    · exact .inr ⟨hop, by simp [hl'], by simp [libNext, hop, hl']⟩
    · exact .inl ⟨.inr hl', by simp only [libNext, hop, hl']⟩

/-- Where a library operation goes on: without an error to its next step, with one to its sleep or to its end. -/
theorem leaveExecute_library_cases (h : InExecute s) (hl : s.seq.l ≠ .off) :
    (s.err = .none ∧ (s.seq.op ≠ .sha256 ∨ s.seq.l = .lEnd) ∧ leaveExecute s = .moved (enterFormat s)) ∨
      (s.err = .none ∧ (s.seq.op = .sha256 ∧ s.seq.l ≠ .lEnd) ∧
        leaveExecute s = .moved (enterUpdate { s with blk := s.blk + if s.seq.l = .lUpdate then 1 else 0 })) ∨
      (s.err ≠ .none ∧ s.par.libSleepOnError = true ∧ leaveExecute s = .moved (enterSleep s)) ∨
      (s.err ≠ .none ∧ s.par.libSleepOnError = false ∧ leaveExecute s = .moved (endOperation (executeDone s))) := by
  rcases leaveExecute_cases s with ⟨hoff, -⟩ | ⟨-, he, hmove⟩ | ⟨-, he, hp, hmove⟩ | ⟨-, he, hp, hmove⟩
  · exact absurd hoff hl
  · rcases libNext_of_inExecute (h.of_eq (t := executeDone s) rfl rfl rfl) hl with ⟨hlast, e⟩ | ⟨hop, hmore, e⟩
    · exact .inl ⟨he, hlast, hmove.trans e⟩
    · exact .inr (.inl ⟨he, ⟨hop, hmore⟩, hmove.trans e⟩)
  · exact .inr (.inr (.inl ⟨he, hp, hmove⟩))
  · exact .inr (.inr (.inr ⟨he, hp, hmove⟩))

/-! ### The run of an operation that is accepted undisturbed -/

/-- It runs from its first step, with at least 48 sequencer steps to take. -/
theorem FirstStep.exec_undisturbed (h : FirstStep s i u) (hs : Undisturbed s) :
    ∃ n, Machine.exec i s = runSeq (n + 48) u := by
  obtain ⟨hb, hin⟩ := hs
  refine ⟨16 * blockCount u.hashText, ?_⟩
  rw [h.exec hb, runOperation_no_input (h.inputs.trans hin), stepBudget, Nat.mul_add]

/-- A step that ends the operation ends the run. -/
theorem runSeq_ended {n : Nat} (h : seqStep s = .moved t) (hb : t.busy = false) : runSeq (n + 1) s = .next t := by
  rw [runSeq_moved h, runSeq_stay (seqStep_not_busy hb)]

/-- An operation that its first step ends. -/
theorem FirstStep.exec_ended (h : FirstStep s i u) (hs : Undisturbed s) (hstep : seqStep u = .moved t)
    (hb : t.busy = false) : Machine.exec i s = .next t := by
  obtain ⟨n, hrun⟩ := h.exec_undisturbed hs
  rw [hrun, runSeq_ended hstep hb]

/-! ### The run of a wake, of the host or of an EXECUTE (R200 to R203) -/

/-- The state of a wake that stands at its read with its write answered and the settle delay over (R201, R202). -/
def wakeSettled (s : State) (a : WrAnswer) (ws : List WrAnswer) : State :=
  { s with
    wrAns := ws, seq := { s.seq with w := .wRead },
    trace := s.trace ++ [.busWrite s.cfgBus 0x00#8 0x00#8 [0x00#8] a, .delay s.cfgSettle] }

/-- The same with its read answered: the three events of a wake are on the trace. -/
def wakeAnswered (s : State) (a : WrAnswer) (ws : List WrAnswer) (ans : RdAnswer) (rs : List RdAnswer) : State :=
  { wakeSettled s a ws with rdAns := rs, trace := s.trace ++ wakeEvents s a ans }

/-- The state of a wake at its verification (R204). -/
def wakeReceived (s : State) (a : WrAnswer) (ws : List WrAnswer) (resp : Bytes) (rs : List RdAnswer) : State :=
  { wakeAnswered s a ws (.bytes resp) rs with rxbuf := resp, seq := { s.seq with w := .wVerify } }

theorem runSeq_wakeSettled (hb : s.busy = true) (hw : s.seq.w = .wWrite) (ha : s.wrAns = a :: ws) (n : Nat) :
    runSeq (n + 2) s = runSeq n (wakeSettled s a ws) := by
  have hwrite : seqStep s = .moved (advanceW { s with
      wrAns := ws, trace := s.trace ++ [.busWrite s.cfgBus 0#8 0#8 [0#8] a] }) := by
    rw [seqStep_busy hb, wStep, hw]
    exact wWriteStep_answered ha
  have hsettle : seqStep (advanceW { s with
      wrAns := ws, trace := s.trace ++ [.busWrite s.cfgBus 0#8 0#8 [0#8] a] }) = .moved (wakeSettled s a ws) := by
    simp [seqStep, hb, wStep, hw, wNext, wSettleStep, wakeSettled, advanceW, settleDelay]
  rw [runSeq_moved hwrite, runSeq_moved hsettle]

/-- The read's answer is the third event of the wake. -/
theorem wakeSettled_trace (s : State) (a : WrAnswer) (ws : List WrAnswer) (ans : RdAnswer) :
    (wakeSettled s a ws).trace ++ [.busRead s.cfgBus s.cfgDevaddr 0x00#8 4 ans] = s.trace ++ wakeEvents s a ans :=
  List.append_assoc ..

/-- A transport error of the read is raised unchanged (R203). -/
theorem seqStep_wakeSettled_err {e : BusErr} (hb : s.busy = true) (hr : s.rdAns = .err e :: rs) :
    seqStep (wakeSettled s a ws) = raise (.transportError e) (wakeAnswered s a ws (.err e) rs) := by
  rw [wakeAnswered, ← wakeSettled_trace s a ws]
  exact (seqStep_busy (s := wakeSettled s a ws) hb).trans (wReadStep_err (s := wakeSettled s a ws) hr)

theorem runSeq_wakeReceived {resp : Bytes} (hb : s.busy = true) (hw : s.seq.w = .wWrite) (ha : s.wrAns = a :: ws)
    (hr : s.rdAns = .bytes resp :: rs) (n : Nat) :
    runSeq (n + 3) s = runSeq n (wakeReceived s a ws resp rs) := by
  have hread : seqStep (wakeSettled s a ws) = .moved (wakeReceived s a ws resp rs) := by
    rw [wakeReceived, wakeAnswered, ← wakeSettled_trace s a ws]
    exact (seqStep_busy (s := wakeSettled s a ws) hb).trans (wReadStep_bytes (s := wakeSettled s a ws) hr)
  rw [runSeq_wakeSettled hb hw ha (n + 1), runSeq_moved hread]

/-! ### The status a wake ends with (R204) -/

/-- Only an interpreted byte has a status, and it is its own (R167). -/
theorem status_of_statusResult {st st' : Status} {b : Byte} {p : Bytes}
    (h : statusResult st b = .ok p (some st')) : st' = st ∧ p = [b] := by
  unfold statusResult at h
  split_ifs at h
  cases h
  exact ⟨rfl, rfl⟩

/-- A buffer verifies with a status only as a 4-byte frame with its byte (R167, R168). -/
theorem checkResponse_of_verifyResult {m : StatusMap} {buf p : Bytes} {st : Status}
    (h : verifyResult m buf = .ok p (some st)) : ∃ b, checkResponse buf = .status b ∧ st = stdec m b ∧ p = [b] := by
  cases hc : checkResponse buf with
  | malformed => cases (verifyResult_malformed hc).symm.trans h
  | badChecksum => cases (verifyResult_badChecksum hc).symm.trans h
  | data q => cases (verifyResult_data hc).symm.trans h
  | status b => exact ⟨b, rfl, status_of_statusResult ((verifyResult_status hc).symm.trans h)⟩

/-- The after-wake byte of a valid table is interpreted as the status a wake succeeds with (R184 (d)). -/
theorem statusResult_afterWake {m : StatusMap} (hm : statusMapValid m = true) :
    statusResult .afterWakeBeforeFirstCommand m.afterWake = .ok [m.afterWake] (some .afterWakeBeforeFirstCommand) := by
  refine statusResult_ok nofun ?_
  simp only [statusMapValid, Bool.and_eq_true, decide_eq_true_eq, bne_iff_ne] at hm
  obtain ⟨⟨-, hlow⟩, hff⟩ := hm
  simp [escalates, hff, Nat.not_le.2 hlow]

/-- No other byte is (R180). -/
theorem statusResult_ne_afterWake {m : StatusMap} {b : Byte} (hb : b ≠ m.afterWake) (p : Bytes) :
    statusResult (stdec m b) b ≠ .ok p (some .afterWakeBeforeFirstCommand) := by
  intro h
  obtain ⟨hst, -⟩ := status_of_statusResult h
  have hrow := statusByte_stdec (m := m) (b := b) (by simp [← hst])
  rw [← hst] at hrow
  exact hb (Option.some.inj hrow).symm

end Sys2Proof.Machine
end

section
/-! The rows of the power-state controller at their steps, the host operations WAKE, SLEEP and IDLE, and the statements
about them (R200 to R208, R230, R240, R244, R245, R285). -/

namespace Sys2Proof.Machine

variable {s : State} {a : WrAnswer} {ws : List WrAnswer}

/-! ### The status rows at `W_VERIFY` (R204, R285) -/

/-- Settles O10: the row is the interpretation of its byte, and only the after-wake byte of a valid table is interpreted as
the after-wake status. -/
theorem statusRowsAtTheWake : Obligations.StatusRowsAtTheWake := by
  intro b s hm hseq
  have hw : s.seq.w = .wVerify := by rw [hseq]
  have hx : s.seq.x = .xWake := by rw [hseq]
  have hl : s.seq.l = .off := by rw [hseq]
  rw [exec_decodeStatus, statusStep]
  refine ⟨fun hb => ?_, fun hb => ?_⟩
  · have hrow : stdec s.par.statusMap b = .afterWakeBeforeFirstCommand := by
      rw [hb]
      exact stdec_of_statusByte (row := .afterWakeBeforeFirstCommand) hm rfl
    rw [hrow, hb, statusResult_afterWake hm, finishVerify_afterWake (by exact hw), wakeDone_execute (by exact hx)]
    simp [ofSeq, advanceX, writeStatus, hseq, xNext]
  · rw [finishVerify_wakeFailed (by exact hw) (statusResult_ne_afterWake hb), raise_inWake (by exact hx),
      leaveExecute_host (by simpa using hl), endOperation_error (e := .wakeFailed) rfl]
    rfl

/-! ### WAKE (R200 to R204) -/

/-- The state in which a power operation of the host stands at its first step (R200, R206, R208). -/
def powerStart (op : OpCode) (w : WStep) (s : State) : State := { accept op s with seq := ⟨op, .off, .off, w⟩ }

/-- The state in which WAKE verifies what its read answered (R204). -/
def wakeVerifying (s : State) (a : WrAnswer) (ws : List WrAnswer) (resp : Bytes) (rs : List RdAnswer) : State :=
  wakeReceived (powerStart .wake .wWrite s) a ws resp rs

/-- WAKE ends as the verification of the bytes read says. -/
theorem exec_wake_ended {resp : Bytes} {rs : List RdAnswer} {t : State} (hs : Undisturbed s) (ha : s.wrAns = a :: ws)
    (hr : s.rdAns = .bytes resp :: rs)
    (hverify : finishVerify (verifyResult s.par.statusMap resp) (verifyWrites (wakeVerifying s a ws resp rs)) = .moved t)
    (hb : t.busy = false) : exec .wake s = .next t := by
  obtain ⟨n, hrun⟩ := FirstStep.wake.exec_undisturbed hs
  calc exec .wake s
    _ = runSeq (n + 45) (wakeVerifying s a ws resp rs) :=
      hrun.trans (runSeq_wakeReceived (s := powerStart .wake .wWrite s) rfl rfl ha hr (n + 45))
    _ = .next t := runSeq_ended (n := n + 44) hverify hb

/-- Settles O13: the frame is a 4-byte one with the after-wake byte, which fixes what its verification writes. -/
theorem wakeReachesAwake : Obligations.WakeReachesAwake := by
  intro a ws resp rs s hs ha hr hok
  obtain ⟨b, hc, hst, hb⟩ := checkResponse_of_verifyResult hok
  cases hb
  have hwrites := verifyWrites_status (s := wakeVerifying s a ws resp rs) hc
  have hverify : finishVerify (verifyResult s.par.statusMap resp) (verifyWrites (wakeVerifying s a ws resp rs)) =
      .moved (deliver (.ok .unit) { writeStatus .afterWakeBeforeFirstCommand s.par.statusMap.afterWake
        (checksummed (wakeVerifying s a ws resp rs)) with pwr := .awake }) := by
    rw [hok, hwrites, finishVerify_afterWake (by exact rfl), wakeDone_host (by exact nofun), if_pos (by exact rfl),
      endOperation_ok (by exact rfl), hst]
    rfl
  exact exec_wake_ended hs ha hr hverify rfl

/-- Settles O14: `verify` writes neither `PWR` nor the configuration, and the error ends the operation. -/
theorem wakeFailsOnAnyOtherStatus : Obligations.WakeFailsOnAnyOtherStatus := by
  intro a ws resp rs s hs ha hr hbad
  have hverify : finishVerify (verifyResult s.par.statusMap resp) (verifyWrites (wakeVerifying s a ws resp rs)) =
      .moved (deliver (.error .wakeFailed) (setError .wakeFailed (verifyWrites (wakeVerifying s a ws resp rs)))) := by
    rw [finishVerify_wakeFailed (by rw [verifyWrites_seq]; rfl) hbad, raise_outside (by rw [verifyWrites_seq]; rfl),
      endOperation_error rfl]
  have hexec := exec_wake_ended hs ha hr hverify rfl
  obtain ⟨c, b, st, hv⟩ := verifyWrites_eq (wakeVerifying s a ws resp rs)
  rw [hv] at hexec
  exact ⟨_, hexec, ⟨rfl, rfl⟩, rfl, rfl, ⟨rfl, rfl, rfl, rfl, rfl⟩, rfl, rfl, rfl⟩

/-- Settles O15: the error of the read is raised at the read, outside an EXECUTE. -/
theorem wakeReadErrorPropagates : Obligations.WakeReadErrorPropagates := by
  intro a ws e rs s hs ha hr
  obtain ⟨n, hrun⟩ := FirstStep.wake.exec_undisturbed hs
  have hread := seqStep_wakeSettled_err (s := powerStart .wake .wWrite s) (a := a) (ws := ws) rfl hr
  rw [raise_outside (by exact rfl), endOperation_error (e := .transportError e) (by exact rfl)] at hread
  calc exec .wake s
    _ = runSeq (n + 46) (wakeSettled (powerStart .wake .wWrite s) a ws) :=
      hrun.trans (runSeq_wakeSettled (s := powerStart .wake .wWrite s) rfl rfl ha (n + 46))
    _ = _ := runSeq_ended (n := n + 45) hread rfl

/-- Settles O17: the step drops the answer and goes on. -/
theorem wakeWriteRow : Obligations.WakeWriteRow := by
  intro a ws s hw ha
  change ofSeq s (wWriteStep s) = _
  rw [wWriteStep_answered ha, advanceW, hw]
  rfl

/-! ### The sleep write (R206, R244) -/

/-- The sleep write is made and answered. -/
def sleepWritten (s : State) (a : WrAnswer) (ws : List WrAnswer) : State :=
  { s with wrAns := ws, trace := s.trace ++ [sleepEvent s a], pwr := .dormant, seq := { s.seq with w := .off } }

/-- At `L_SLEEP` and in SLEEP it ends the operation. -/
theorem sWriteStep_ends (ha : s.wrAns = a :: ws) (hend : s.seq.l = .lSleep ∨ s.seq.op = .sleep) :
    sWriteStep s = .moved (endOperation (sleepWritten s a ws)) := by
  rw [sWriteStep_answered ha, sleepDone, if_pos (by exact hend)]
  rfl

/-- Inside an EXECUTE no sleep write is nested, and the idle write only at its exit (R28). -/
theorem exchangeNested_w (hn : exchangeNested s = true) :
    s.seq.w ≠ .sWrite ∧ (s.seq.w = .iWrite → s.seq.x = .xExit) := by
  cases hx : s.seq.x <;> simp [exchangeNested, hx] at hn
  case xWake =>
    obtain ⟨-, hwake⟩ := hn
    cases hw : s.seq.w <;> simp [hw, inWake] at hwake ⊢
  case xExit =>
    obtain ⟨⟨-, hw⟩, -⟩ := hn
    refine ⟨?_, fun _ => rfl⟩
    rw [hw]
    split <;> nofun
  all_goals simp [hn]

/-- In the invariant `S_WRITE` stands only at `L_SLEEP` and in SLEEP (R28). -/
theorem stage_at_sWrite (h : StateInv s = true) (hb : s.busy = true) (hw : s.seq.w = .sWrite) :
    s.seq.l = .lSleep ∨ s.seq.op = .sleep := by
  cases ((stateInv_iff s).1 h).2 with
  | quiet hb' => cases hb.symm.trans hb'
  | sleep _ hop => exact .inr hop
  | librarySleep _ _ hl => exact .inl hl
  | execute _ _ hn => exact absurd hw (exchangeNested_w hn).1
  | wake _ _ _ _ hw' => simp [hw, inWake] at hw'
  | idle _ _ _ _ hw' | prepare _ _ _ _ hw' | format _ _ _ _ hw' => cases hw.symm.trans hw'

/-- Settles O18: the step ends the operation, and the write touches no error register. -/
theorem sleepWriteRow : Obligations.SleepWriteRow := by
  intro a ws s h hb hw ha
  obtain ⟨o, ho, houtcome⟩ := endOperation_cases (sleepWritten s a ws)
  refine ⟨o, ?_, houtcome⟩
  change ofSeq s (sWriteStep s) = _
  rw [sWriteStep_ends ha (stage_at_sWrite h hb hw), ho]
  simp [ofSeq, deliver, sleepWritten]

/-! ### The idle write (R208, R230) -/

/-- The idle write is made and answered: the steps it stands in are over, and no Idle is scheduled any more. -/
def idleWritten (s : State) (a : WrAnswer) (ws : List WrAnswer) : State :=
  { s with
    wrAns := ws, trace := s.trace ++ [idleEvent s a], pwr := .idle, idlep := false,
    seq := ⟨s.seq.op, s.seq.l, .off, .off⟩ }

/-- In IDLE it ends the operation. -/
theorem iWriteStep_host (ha : s.wrAns = a :: ws) (hop : s.seq.op = .idle) (hx : s.seq.x = .off)
    (hi : s.idlep = false) : iWriteStep s = .moved (endOperation (idleWritten s a ws)) := by
  rw [iWriteStep_answered ha, idleDone_host (by simp [hx]), if_pos hop, idleWritten, ← hi, ← hx]
  rfl

/-- At `X_EXIT` the EXECUTE returns. -/
theorem iWriteStep_execute (ha : s.wrAns = a :: ws) (hx : s.seq.x = .xExit) :
    iWriteStep s = leaveExecute (idleWritten s a ws) := by
  rw [iWriteStep_answered ha, idleDone_execute (by exact hx)]
  rfl

/-- In the invariant `I_WRITE` stands only in IDLE and at the exit of an EXECUTE (R28). -/
theorem stage_at_iWrite (h : StateInv s = true) (hb : s.busy = true) (hw : s.seq.w = .iWrite) :
    (s.seq.op = .idle ∧ s.seq.l = .off ∧ s.seq.x = .off ∧ s.idlep = false) ∨ (s.seq.x = .xExit ∧ InExecute s) := by
  cases ((stateInv_iff s).1 h).2 with
  | quiet hb' => cases hb.symm.trans hb'
  | idle _ hop hl hx _ hi => exact .inl ⟨hop, hl, hx, hi⟩
  | execute _ hin hn => exact .inr ⟨(exchangeNested_w hn).2 hw, hin⟩
  | wake _ _ _ _ hw' => simp [hw, inWake] at hw'
  | sleep _ _ _ _ hw' | prepare _ _ _ _ hw' | format _ _ _ _ hw' | librarySleep _ _ _ _ hw' =>
    cases hw.symm.trans hw'

/-- Outside a library operation it ends the operation. -/
theorem iWriteStep_ends (h : StateInv s = true) (hb : s.busy = true) (hw : s.seq.w = .iWrite) (hl : s.seq.l = .off)
    (ha : s.wrAns = a :: ws) : iWriteStep s = .moved (endOperation (idleWritten s a ws)) := by
  rcases stage_at_iWrite h hb hw with ⟨hop, -, hx, hi⟩ | ⟨hx, -⟩
  · exact iWriteStep_host ha hop hx hi
  · rw [iWriteStep_execute ha hx, leaveExecute_host (by exact hl)]
    rfl

/-- Settles O19: the step ends the operation, and the write touches no error register. -/
theorem idleWriteRow : Obligations.IdleWriteRow := by
  intro a ws s h hb hw hl ha
  obtain ⟨o, ho, houtcome⟩ := endOperation_cases (idleWritten s a ws)
  refine ⟨o, ?_, houtcome⟩
  change ofSeq s (iWriteStep s) = _
  rw [iWriteStep_ends h hb hw hl ha, ho]
  simp [ofSeq, deliver, idleWritten]

/-- Settles O20: at the exit of its EXECUTE the library operation goes on as `leaveExecute` says. -/
theorem idleWriteRowInALibraryOperation : Obligations.IdleWriteRowInALibraryOperation := by
  intro a ws s h hb hw hl ha
  obtain ⟨hx, hin⟩ : s.seq.x = .xExit ∧ InExecute s :=
    (stage_at_iWrite h hb hw).resolve_left fun hhost => hl hhost.2.1
  have hways := leaveExecute_library_cases (hin.of_eq (t := idleWritten s a ws) rfl rfl rfl) hl
  obtain ⟨t, hmove⟩ : ∃ t, leaveExecute (idleWritten s a ws) = .moved t := by
    rcases hways with ⟨-, -, e⟩ | ⟨-, -, e⟩ | ⟨-, -, e⟩ | ⟨-, -, e⟩ <;> exact ⟨_, e⟩
  have hexec : exec .idleWr s = .next t := congrArg (ofSeq s) ((iWriteStep_execute ha hx).trans hmove)
  have hframe := exec_frame hexec
  obtain ⟨hpwr, hidlep, hwr, hrd, herr, hinfo, hmsg, htext, hhex, hout⟩ := leaveExecute_keeps hmove
  refine ⟨t, hexec, hpwr, hidlep rfl, hwr, hrd, herr, hinfo, hmsg, htext, hhex, hout, hframe.config, hframe.inputs,
    hframe.replies, ?_⟩
  rcases hways with ⟨he, hlast, e⟩ | ⟨he, hmore, e⟩ | ⟨he, hp, e⟩ | ⟨he, hp, e⟩ <;> cases e.symm.trans hmove
  · exact ⟨fun _ => ⟨hb, rfl, fun _ => ⟨rfl, rfl⟩, fun hop hne => (hlast.elim (· hop) hne).elim⟩,
      fun hne => absurd he hne, fun e hr => absurd he (err_ne_none_of_raisedError hr)⟩
  · obtain ⟨hop, hne⟩ := hmore
    refine ⟨fun _ => ⟨(enterUpdate_busy _).trans hb, enterUpdate_trace _,
        fun hlast => (hlast.elim (· hop) hne).elim, fun _ _ => ⟨enterUpdate_blk _, ?_⟩⟩,
      fun hne => absurd he hne, fun e hr => absurd he (err_ne_none_of_raisedError hr)⟩
    rw [enterUpdate_seq, enterUpdate_blk, ← hop]
    rfl
  · exact ⟨fun hnone => absurd hnone he, fun _ _ => ⟨hb, rfl, rfl⟩, fun _ _ hp' => absurd (hp.symm.trans hp') nofun⟩
  · refine ⟨fun hnone => absurd hnone he, fun _ hp' => absurd (hp.symm.trans hp') nofun, fun e hr _ => ?_⟩
    rw [endOperation_error (s := executeDone (idleWritten s a ws)) hr]
    exact ⟨⟨rfl, rfl⟩, List.append_assoc ..⟩

/-! ### SLEEP and IDLE (R206, R208) -/

/-- Settles O16: the one step of each ends it, with no error recorded. -/
theorem sleepAndIdleAlwaysEndOk : Obligations.SleepAndIdleAlwaysEndOk := by
  intro a ws s hs ha
  have hsleep : sWriteStep (powerStart .sleep .sWrite s) =
      .moved (deliver (.ok .unit) (sleepWritten (powerStart .sleep .sWrite s) a ws)) := by
    rw [sWriteStep_ends (s := powerStart .sleep .sWrite s) ha (.inr rfl), endOperation_ok rfl]
    rfl
  have hidle : iWriteStep (powerStart .idle .iWrite s) =
      .moved (deliver (.ok .unit) (idleWritten (powerStart .idle .iWrite s) a ws)) := by
    rw [iWriteStep_host (s := powerStart .idle .iWrite s) ha rfl rfl rfl, endOperation_ok rfl]
    rfl
  refine ⟨(FirstStep.sleep.exec_ended hs hsleep rfl).trans ?_, (FirstStep.idle.exec_ended hs hidle rfl).trans ?_⟩
  · simp [deliver, sleepWritten, sleepEvent, powerStart]
  · simp [deliver, idleWritten, idleEvent, powerStart]

end Sys2Proof.Machine
end

section
/-! `PWR` is written by the power-state steps only (10_state.md R40; 43_power_state.md R210), and the statement about
it. -/

namespace Sys2Proof.Machine

variable {s t : State}

/-- A sequencer step that moves leaves `PWR` at `p`. -/
def SeqResult.HasPower (p : Power) : SeqResult → Prop
  | .moved t => t.pwr = p
  | _ => True

/-! ### What is not a power-state step leaves it -/

theorem busWrite_power {dev reg : Byte} {b : Bytes} {a : WrAnswer} (h : busWrite dev reg b s = some (a, t)) :
    t.pwr = s.pwr := by
  rcases busWrite_cases dev reg b s with ⟨-, e⟩ | ⟨_, _, -, e⟩ <;> cases e.symm.trans h
  rfl

theorem busRead_power {dev reg : Byte} {n : Nat} {a : RdAnswer} (h : busRead dev reg n s = some (a, t)) :
    t.pwr = s.pwr := by
  rcases busRead_cases dev reg n s with ⟨-, e⟩ | ⟨_, _, -, e⟩ <;> cases e.symm.trans h
  rfl

theorem leaveExecute_hasPower (s : State) : (leaveExecute s).HasPower s.pwr := by
  cases h : leaveExecute s with
  | moved t => exact (leaveExecute_keeps h).pwr
  | stay | fault => trivial

theorem raise_hasPower (e : OpError) {p : Power} (hs : s.pwr = p) : (raise e s).HasPower p := by
  subst hs
  rcases raise_cases e s with ⟨-, er⟩ | ⟨-, er⟩ | ⟨-, -, er⟩ <;> rw [er]
  · simp [SeqResult.HasPower]
  · simpa using leaveExecute_hasPower (setError e s)
  · simp [SeqResult.HasPower]

theorem xWrcmdStep_hasPower (s : State) : (xWrcmdStep s).HasPower s.pwr := by
  unfold xWrcmdStep
  split
  case h_1 => trivial
  case h_2 hans => exact raise_hasPower _ (busWrite_power hans)
  case h_3 hans => exact (busWrite_power hans :)

theorem xTrigStep_hasPower (s : State) : (xTrigStep s).HasPower s.pwr := by
  unfold xTrigStep
  split
  case h_1 => trivial
  case h_2 hans => exact raise_hasPower _ (busWrite_power hans)
  case h_3 hans => exact (busWrite_power hans :)

theorem xRdlenStep_hasPower (s : State) : (xRdlenStep s).HasPower s.pwr := by
  unfold xRdlenStep
  split
  case h_1 | h_3 => trivial
  case h_2 hans => exact raise_hasPower _ (busRead_power hans)
  case h_4 hans => exact (busRead_power hans :)

theorem xRdfrmStep_hasPower (s : State) : (xRdfrmStep s).HasPower s.pwr := by
  unfold xRdfrmStep
  split
  case h_1 => trivial
  case h_2 hans => exact raise_hasPower _ (busRead_power hans)
  case h_3 hans => exact (busRead_power hans :)

@[simp] theorem verifyWrites_pwr (s : State) : (verifyWrites s).pwr = s.pwr := by
  obtain ⟨c, b, st, hv⟩ := verifyWrites_eq s
  rw [hv]

theorem xVerifyStep_hasPower (hw : s.seq.w = .off) (hx : s.seq.x = .xVerify) : (xVerifyStep s).HasPower s.pwr := by
  obtain ⟨k, i, v, hr⟩ := recordVerified_eq (verifyResult s.par.statusMap s.rxbuf) (verifyWrites s)
  rw [xVerifyStep, verifyStep, finishVerify_execute (by simp [hw]) (by simpa using hx), hr]
  exact verifyWrites_pwr s

theorem lStep_hasPower (s : State) : (lStep s).HasPower s.pwr := by
  cases hl : s.seq.l <;> simp only [lStep, hl]
  case lPrep =>
    cases hm : messageBytes s with
    | none =>
      rw [lPrepStep_none hm]
      exact raise_hasPower _ rfl
    | some m =>
      rw [lPrepStep_some hm]
      rfl
  case lFormat =>
    cases ho : outputText s with
    | ok text =>
      rw [lFormatStep_ok ho]
      rfl
    | error f =>
      rw [lFormatStep_error ho]
      trivial
  all_goals trivial

theorem xStep_hasPower (hw : s.seq.w = .off) : (xStep s).HasPower s.pwr := by
  cases hx : s.seq.x <;> simp only [xStep, hx]
  case off => exact lStep_hasPower s
  case xWake =>
    unfold xWakeStep
    split
    · trivial
    · rfl
  case xArm =>
    unfold xArmStep
    split
    · rfl
    · rfl
  case xEncode | xSettle => rfl
  case xWrcmd => exact xWrcmdStep_hasPower s
  case xTrig => exact xTrigStep_hasPower s
  case xRdlen => exact xRdlenStep_hasPower s
  case xRdfrm => exact xRdfrmStep_hasPower s
  case xVerify => exact xVerifyStep_hasPower hw hx
  case xExit =>
    unfold xExitStep
    split
    · trivial
    · exact leaveExecute_hasPower s

theorem wWriteStep_hasPower (s : State) : (wWriteStep s).HasPower s.pwr := by
  unfold wWriteStep
  split
  case h_1 => trivial
  case h_2 hans => exact (busWrite_power hans :)

theorem wReadStep_hasPower (s : State) : (wReadStep s).HasPower s.pwr := by
  unfold wReadStep
  split
  case h_1 => trivial
  case h_2 hans => exact raise_hasPower _ (busRead_power hans)
  case h_3 hans => exact (busRead_power hans :)

theorem wStep_hasPower (hs : s.seq.w ≠ .sWrite) (hi : s.seq.w ≠ .iWrite) (hv : s.seq.w ≠ .wVerify) :
    (wStep s).HasPower s.pwr := by
  cases hw : s.seq.w <;> simp only [wStep, hw]
  case off => exact xStep_hasPower hw
  case wWrite => exact wWriteStep_hasPower s
  case wSettle => rfl
  case wRead => exact wReadStep_hasPower s
  case wVerify => exact absurd hw hv
  case sWrite => exact absurd hw hs
  case iWrite => exact absurd hw hi

/-! ### The steps that write it (R210) -/

theorem wakeDone_pwr (s : State) : (wakeDone s).pwr = .awake := by
  by_cases hx : s.seq.x = .xWake
  · rw [wakeDone_execute hx]
    rfl
  · rw [wakeDone_host hx]
    split
    · simp
    · rfl

theorem sleepDone_pwr (s : State) : (sleepDone s).pwr = .dormant := by
  unfold sleepDone
  dsimp only
  split
  · simp
  · rfl

theorem idleDone_hasPower (s : State) : (idleDone s).HasPower .idle := by
  by_cases hx : s.seq.x = .xExit
  · rw [idleDone_execute hx]
    exact leaveExecute_hasPower { s with pwr := .idle, idlep := false, seq := { s.seq with w := .off } }
  · rw [idleDone_host hx]
    split
    · simp [SeqResult.HasPower]
    · rfl

theorem sWriteStep_hasPower (s : State) : (sWriteStep s).HasPower .dormant := by
  unfold sWriteStep
  split
  case h_1 => trivial
  case h_2 => exact sleepDone_pwr _

theorem iWriteStep_hasPower (s : State) : (iWriteStep s).HasPower .idle := by
  unfold iWriteStep
  split
  case h_1 => trivial
  case h_2 => exact idleDone_hasPower _

/-- An error that is raised is recorded (R290). -/
theorem raise_sameError {e : OpError} (h : raise e s = .moved t) : SameError (setError e s) t := by
  rcases raise_cases e s with ⟨-, er⟩ | ⟨-, er⟩ | ⟨-, -, er⟩
  · cases er.symm.trans h
    exact endOperation_sameError _
  · exact leaveExecute_sameError (er.symm.trans h) (setError_err_ne_none e s)
  · cases er.symm.trans h
    exact ⟨rfl, rfl, rfl⟩

/-- A wake's verification makes `PWR` Awake, or leaves it and records WakeFailed (R204). -/
theorem wVerifyStep_power (hw : s.seq.w = .wVerify) (h : wVerifyStep s = .moved t) :
    t.pwr = .awake ∨ (t.pwr = s.pwr ∧ t.err = .wakeFailed) := by
  have hw' : (verifyWrites s).seq.w = .wVerify := by simpa using hw
  rw [wVerifyStep, verifyStep] at h
  by_cases hr : ∃ p, verifyResult s.par.statusMap s.rxbuf = .ok p (some .afterWakeBeforeFirstCommand)
  · obtain ⟨p, hr⟩ := hr
    rw [hr, finishVerify_afterWake hw'] at h
    cases h
    exact .inl (wakeDone_pwr _)
  · rw [finishVerify_wakeFailed hw' (not_exists.1 hr)] at h
    have hpower := raise_hasPower .wakeFailed (verifyWrites_pwr s)
    rw [h] at hpower
    obtain ⟨herr, -⟩ := raise_sameError h
    exact .inr ⟨hpower, herr⟩

/-! ### The statement -/

/-- Settles O24: the walk through the steps, and the three that write `PWR`. -/
theorem powerChangesOnlyInPowerSteps : Obligations.PowerChangesOnlyInPowerSteps := by
  intro s t h
  have hstep : wStep s = .moved t := by
    cases hb : s.busy
    · cases (seqStep_not_busy hb).symm.trans h
    · exact (seqStep_busy hb).symm.trans h
  have hpower {p : Power} (hp : (wStep s).HasPower p) : t.pwr = p := by
    rwa [hstep] at hp
  refine ⟨fun hw => hpower ?_, fun hw => hpower ?_, fun hw => ?_, fun hs hi hv => hpower (wStep_hasPower hs hi hv)⟩
  · rw [wStep, hw]
    exact sWriteStep_hasPower s
  · rw [wStep, hw]
    exact iWriteStep_hasPower s
  · rw [wStep, hw] at hstep
    exact wVerifyStep_power hw hstep

end Sys2Proof.Machine
end

section
/-! Runs of several sequencer steps, and the run of an EXECUTE, of the host or of a library operation: its wake, its
body step by step, and its exit (R220 to R232). -/

namespace Sys2Proof.Machine

variable {s t u v : State} {i : Instr} {a : WrAnswer} {ws : List WrAnswer} {rs : List RdAnswer} {wake resp : Bytes}
  {len : Byte} {e : OpError}

/-! ### Runs of several sequencer steps -/

/-- From `s` the sequencer comes to `t`, whatever the number of steps it may take then. -/
def Reaches (s t : State) : Prop := ∃ n, ∀ k, runSeq (k + n) s = runSeq k t

theorem Reaches.refl (s : State) : Reaches s s := ⟨0, fun _ => rfl⟩

theorem Reaches.of_moved (h : seqStep s = .moved t) : Reaches s t := ⟨1, fun _ => runSeq_moved h⟩

theorem Reaches.trans (h : Reaches s t) (k : Reaches t u) : Reaches s u := by
  obtain ⟨n, hn⟩ := h
  obtain ⟨m, hm⟩ := k
  exact ⟨m + n, fun j => by rw [← Nat.add_assoc, hn, hm]⟩

/-- One more step. -/
theorem Reaches.step (h : Reaches s t) (hstep : seqStep t = .moved u) : Reaches s u := h.trans (.of_moved hstep)

/-- An operation that is accepted undisturbed takes a further step wherever its sequencer comes to: its budget is enough
for all its steps. -/
theorem FirstStep.exec_reaches (h : FirstStep s i u) (hs : Undisturbed s) (hr : Reaches u t) :
    ∃ k, Machine.exec i s = runSeq (k + 1) t := by
  obtain ⟨hb, hin⟩ := hs
  obtain ⟨n, hn⟩ := hr
  refine ⟨stepBudget u, ?_⟩
  rw [h.exec hb, runOperation_no_input (h.inputs.trans hin), ← hn]
  exact (runSeq_eq_of_le h.stepsLeft_lt (by omega)).symm

theorem FirstStep.exec_next (h : FirstStep s i u) (hs : Undisturbed s) (hr : Reaches u t)
    (hstep : seqStep t = .moved v) (hb : v.busy = false) : Machine.exec i s = .next v := by
  obtain ⟨k, hk⟩ := h.exec_reaches hs hr
  rw [hk, runSeq_ended hstep hb]

theorem FirstStep.exec_fault {f : Fault} (h : FirstStep s i u) (hs : Undisturbed s) (hr : Reaches u t)
    (hstep : seqStep t = .fault f) : Machine.exec i s = .fault f := by
  obtain ⟨k, hk⟩ := h.exec_reaches hs hr
  rw [hk, runSeq_fault hstep]

/-! ### The steps of an EXECUTE -/

/-- With nothing nested the sequencer's step is that of `SEQ.X`. -/
theorem seqStep_executor (hb : s.busy = true) (hw : s.seq.w = .off) : seqStep s = xStep s := by
  rw [seqStep_busy hb, wStep, hw]

/-- An error in the body of an EXECUTE goes to its exit (R290 (c)). -/
theorem raise_inBody (hx : inBody s.seq.x = true) (e : OpError) : raise e s = .moved (enterExit (setError e s)) := by
  rcases raise_cases e s with ⟨h, -⟩ | ⟨h, -⟩ | ⟨-, -, er⟩
  · simp [h, inBody] at hx
  · simp [h, inBody] at hx
  · exact er

/-! ### The wake of a wrapped EXECUTE (R221, R222) -/

/-- A wrapped EXECUTE stands at its first step. -/
structure AtWake (s : State) : Prop where
  busy : s.busy = true
  x : s.seq.x = .xWake
  w : s.seq.w = .wWrite
  wrap : s.wrap = true

/-- The wake goes through with these bytes (R204). -/
def WakesUp (m : StatusMap) (wake : Bytes) : Prop :=
  verifyResult m wake = .ok [m.afterWake] (some .afterWakeBeforeFirstCommand)

/-- The state of a wrapped EXECUTE at `X_ENCODE`, after a wake that went through. -/
def wakePassed (s : State) (a : WrAnswer) (ws : List WrAnswer) (wake : Bytes) (rs : List RdAnswer) : State :=
  { s with
    wrAns := ws, rdAns := rs, trace := s.trace ++ wakeEvents s a (.bytes wake), rxbuf := wake,
    crc := crcReg (frameBody wake), stb := s.par.statusMap.afterWake, status := some .afterWakeBeforeFirstCommand,
    pwr := .awake, idlep := true, seq := ⟨s.seq.op, s.seq.l, .xEncode, .off⟩ }

theorem reaches_wakePassed (h : AtWake s) (hok : WakesUp s.par.statusMap wake) (ha : s.wrAns = a :: ws)
    (hr : s.rdAns = .bytes wake :: rs) : Reaches s (wakePassed s a ws wake rs) := by
  obtain ⟨hb, hx, hw, hwrap⟩ := h
  obtain ⟨b, hc, hst, hpayload⟩ := checkResponse_of_verifyResult hok
  cases hpayload
  have hreceived : Reaches s (wakeReceived s a ws wake rs) := ⟨3, runSeq_wakeReceived hb hw ha hr⟩
  have hverify : seqStep (wakeReceived s a ws wake rs) = .moved { wakePassed s a ws wake rs with
      idlep := s.idlep, seq := ⟨s.seq.op, s.seq.l, .xArm, .off⟩ } := by
    have hresult : verifyResult (wakeReceived s a ws wake rs).par.statusMap (wakeReceived s a ws wake rs).rxbuf =
        .ok [s.par.statusMap.afterWake] (some .afterWakeBeforeFirstCommand) := hok
    have hwrites : verifyWrites (wakeReceived s a ws wake rs) = writeStatus .afterWakeBeforeFirstCommand
        s.par.statusMap.afterWake (checksummed (wakeReceived s a ws wake rs)) := by
      rw [hst]
      exact verifyWrites_status hc
    refine (seqStep_busy (by exact hb)).trans ?_
    change verifyStep _ = _
    rw [verifyStep, hresult, hwrites, finishVerify_afterWake (by exact rfl), wakeDone_execute (by exact hx)]
    simp [advanceX, xNext, wakePassed, writeStatus, checksummed, wakeReceived, wakeAnswered, wakeSettled, hx]
  refine (hreceived.step hverify).step ?_
  refine (seqStep_executor (by exact hb) (by exact rfl)).trans ?_
  change xArmStep _ = _
  rw [xArmStep, if_pos (by exact hwrap)]
  rfl

/-- Without a wake `X_WAKE` and `X_ARM` do nothing (R221, R222). -/
theorem reaches_unwrapped (hb : s.busy = true) (hx : s.seq.x = .xWake) (hw : s.seq.w = .off) (hwrap : s.wrap = false) :
    Reaches s { s with seq := ⟨s.seq.op, s.seq.l, .xEncode, .off⟩ } := by
  have hwake : seqStep s = .moved { s with seq := ⟨s.seq.op, s.seq.l, .xArm, .off⟩ } := by
    simp [seqStep_executor hb hw, xStep, hx, xWakeStep, hwrap, advanceX, xNext, hw]
  refine (Reaches.of_moved hwake).step ?_
  refine (seqStep_executor (by exact hb) (by exact rfl)).trans ?_
  change xArmStep _ = _
  rw [xArmStep, if_neg (by simp [hwrap])]
  rfl

/-! ### The steps of the body (R223 to R229) -/

/-- An EXECUTE stands at the first step of its body. -/
structure AtEncode (s : State) : Prop where
  busy : s.busy = true
  x : s.seq.x = .xEncode
  w : s.seq.w = .off

/-- The Command Frame of the operands (R160). -/
def frameOf (s : State) : Bytes := commandFrame s.opc s.p1 s.p2a s.p2b s.data

/-- An EXECUTE whose body began in `s` has come to step `x`, with these events and these answers left. -/
def bodyAt (s : State) (x : XStep) (es : List Event) (ws : List WrAnswer) (rs : List RdAnswer) : State :=
  { encodeFrame s with
    trace := s.trace ++ es, wrAns := ws, rdAns := rs, seq := ⟨s.seq.op, s.seq.l, x, .off⟩ }

/-- The events of the body up to `X_TRIG` (R232). -/
def commandEvents (s : State) : List Event :=
  [.busWrite s.cfgBus s.cfgDevaddr s.cfgCmdreg (frameOf s) .ok, .delay s.cfgSettle]

/-- The events of the body up to `X_RDLEN` (R232). -/
def triggerEvents (s : State) : List Event :=
  commandEvents s ++ [.busWrite s.cfgBus s.cfgDevaddr 0x00#8 [0x00#8] .ok]

/-! A step of the body with its answer there: what it adds to the events, and where it goes (R30, R290 (c)). -/

section
variable (hb : s.busy = true) (es : List Event) (ws : List WrAnswer) (rs : List RdAnswer)
include hb

theorem seqStep_bodyAt (x : XStep) : seqStep (bodyAt s x es ws rs) = xStep (bodyAt s x es ws rs) :=
  seqStep_executor hb rfl

theorem seqStep_xWrcmd_ok :
    seqStep (bodyAt s .xWrcmd es (.ok :: ws) rs) = .moved (bodyAt s .xSettle
      (es ++ [.busWrite s.cfgBus s.cfgDevaddr s.cfgCmdreg (frameOf s) .ok]) ws rs) := by
  refine (seqStep_bodyAt hb ..).trans ((xWrcmdStep_ok (s := bodyAt s .xWrcmd es (.ok :: ws) rs) rfl).trans ?_)
  simp [advanceX, xNext, bodyAt, frameOf]

theorem seqStep_xSettle :
    seqStep (bodyAt s .xSettle es ws rs) = .moved (bodyAt s .xTrig (es ++ [.delay s.cfgSettle]) ws rs) := by
  rw [seqStep_bodyAt hb]
  simp [xStep, xSettleStep, settleDelay, advanceX, xNext, bodyAt]

theorem seqStep_xTrig_ok :
    seqStep (bodyAt s .xTrig es (.ok :: ws) rs) = .moved (bodyAt s .xRdlen
      (es ++ [.busWrite s.cfgBus s.cfgDevaddr 0x00#8 [0x00#8] .ok]) ws rs) := by
  refine (seqStep_bodyAt hb ..).trans ((xTrigStep_ok (s := bodyAt s .xTrig es (.ok :: ws) rs) rfl).trans ?_)
  simp [advanceX, xNext, bodyAt]

theorem seqStep_xRdlen_bytes (len : Byte) :
    seqStep (bodyAt s .xRdlen es ws (.bytes [len] :: rs)) = .moved (bodyAt { s with rlen := len } .xRdfrm
      (es ++ [.busRead s.cfgBus s.cfgDevaddr s.cfgCmdreg 1 (.bytes [len])]) ws rs) := by
  refine (seqStep_bodyAt hb ..).trans
    ((xRdlenStep_bytes (s := bodyAt s .xRdlen es ws (.bytes [len] :: rs)) rfl).trans ?_)
  simp [advanceX, xNext, bodyAt, encodeFrame]

theorem seqStep_xRdlen_empty : seqStep (bodyAt s .xRdlen es ws (.bytes [] :: rs)) = .fault .noLengthByte :=
  (seqStep_bodyAt hb ..).trans (xRdlenStep_empty (s := bodyAt s .xRdlen es ws (.bytes [] :: rs)) rfl)

theorem seqStep_xRdfrm_bytes (resp : Bytes) :
    seqStep (bodyAt s .xRdfrm es ws (.bytes resp :: rs)) = .moved (bodyAt { s with rxbuf := resp } .xVerify
      (es ++ [.busRead s.cfgBus s.cfgDevaddr s.cfgCmdreg s.rlen.toNat (.bytes resp)]) ws rs) := by
  refine (seqStep_bodyAt hb ..).trans
    ((xRdfrmStep_bytes (s := bodyAt s .xRdfrm es ws (.bytes resp :: rs)) rfl).trans ?_)
  simp [advanceX, xNext, bodyAt, encodeFrame]

theorem seqStep_xVerify :
    seqStep (bodyAt s .xVerify es ws rs) =
      .moved (enterExit (recordVerified (verifyResult s.par.statusMap s.rxbuf)
        (verifyWrites (bodyAt s .xVerify es ws rs)))) := by
  refine (seqStep_bodyAt hb ..).trans (finishVerify_execute ?_ ?_ _)
  · rw [verifyWrites_seq]; exact nofun
  · rw [verifyWrites_seq]; rfl

theorem seqStep_xWrcmd_err (e : BusErr) :
    seqStep (bodyAt s .xWrcmd es (.err e :: ws) rs) = .moved (enterExit (setError (.transportError e)
      (bodyAt s .xWrcmd (es ++ [.busWrite s.cfgBus s.cfgDevaddr s.cfgCmdreg (frameOf s) (.err e)]) ws rs))) := by
  refine (seqStep_bodyAt hb ..).trans ((xWrcmdStep_err (s := bodyAt s .xWrcmd es (.err e :: ws) rs) rfl).trans ?_)
  rw [raise_inBody (by exact rfl)]
  simp [bodyAt, frameOf]

theorem seqStep_xTrig_err (e : BusErr) :
    seqStep (bodyAt s .xTrig es (.err e :: ws) rs) = .moved (enterExit (setError (.transportError e)
      (bodyAt s .xTrig (es ++ [.busWrite s.cfgBus s.cfgDevaddr 0x00#8 [0x00#8] (.err e)]) ws rs))) := by
  refine (seqStep_bodyAt hb ..).trans ((xTrigStep_err (s := bodyAt s .xTrig es (.err e :: ws) rs) rfl).trans ?_)
  rw [raise_inBody (by exact rfl)]
  simp [bodyAt]

theorem seqStep_xRdlen_err (e : BusErr) :
    seqStep (bodyAt s .xRdlen es ws (.err e :: rs)) = .moved (enterExit (setError (.transportError e)
      (bodyAt s .xRdlen (es ++ [.busRead s.cfgBus s.cfgDevaddr s.cfgCmdreg 1 (.err e)]) ws rs))) := by
  refine (seqStep_bodyAt hb ..).trans ((xRdlenStep_err (s := bodyAt s .xRdlen es ws (.err e :: rs)) rfl).trans ?_)
  rw [raise_inBody (by exact rfl)]
  simp [bodyAt]

theorem seqStep_xRdfrm_err (e : BusErr) :
    seqStep (bodyAt s .xRdfrm es ws (.err e :: rs)) = .moved (enterExit (setError (.transportError e)
      (bodyAt s .xRdfrm (es ++ [.busRead s.cfgBus s.cfgDevaddr s.cfgCmdreg s.rlen.toNat (.err e)]) ws rs))) := by
  refine (seqStep_bodyAt hb ..).trans ((xRdfrmStep_err (s := bodyAt s .xRdfrm es ws (.err e :: rs)) rfl).trans ?_)
  rw [raise_inBody (by exact rfl)]
  simp [bodyAt]

end

/-! How far the body comes with these answers there. -/

theorem reaches_xWrcmd (h : AtEncode s) : Reaches s (bodyAt s .xWrcmd [] s.wrAns s.rdAns) := by
  obtain ⟨hb, hx, hw⟩ := h
  refine .of_moved ?_
  simp [seqStep_executor hb hw, xStep, hx, xEncodeStep, advanceX, xNext, hw, bodyAt]

theorem reaches_xTrig (h : AtEncode s) (ha : s.wrAns = .ok :: ws) :
    Reaches s (bodyAt s .xTrig (commandEvents s) ws s.rdAns) := by
  have hcommand := reaches_xWrcmd h
  rw [ha] at hcommand
  exact (hcommand.step (seqStep_xWrcmd_ok h.busy ..)).step (seqStep_xSettle h.busy ..)

theorem reaches_xRdlen (h : AtEncode s) (ha : s.wrAns = .ok :: .ok :: ws) :
    Reaches s (bodyAt s .xRdlen (triggerEvents s) ws s.rdAns) :=
  (reaches_xTrig h ha).step (seqStep_xTrig_ok h.busy ..)

theorem reaches_xRdfrm (h : AtEncode s) (ha : s.wrAns = .ok :: .ok :: ws) (hr : s.rdAns = .bytes [len] :: rs) :
    Reaches s (bodyAt { s with rlen := len } .xRdfrm
      (triggerEvents s ++ [.busRead s.cfgBus s.cfgDevaddr s.cfgCmdreg 1 (.bytes [len])]) ws rs) := by
  have hlength := reaches_xRdlen h ha
  rw [hr] at hlength
  exact hlength.step (seqStep_xRdlen_bytes h.busy ..)

theorem reaches_xVerify (h : AtEncode s) (ha : s.wrAns = .ok :: .ok :: ws)
    (hr : s.rdAns = .bytes [len] :: .bytes resp :: rs) :
    Reaches s (bodyAt { s with rlen := len, rxbuf := resp } .xVerify (bodyEvents s (frameOf s) len resp) ws rs) :=
  (reaches_xRdfrm h ha hr).step (seqStep_xRdfrm_bytes (s := { s with rlen := len }) h.busy ..)

/-! ### The exit (R230) -/

/-- With the Idle scheduled the idle write is made, then the EXECUTE returns. -/
theorem seqStep_exit_idle (hb : s.busy = true) (hi : s.idlep = true) (ha : s.wrAns = a :: ws) :
    seqStep (enterExit s) = leaveExecute (idleWritten s a ws) := by
  have hw : (enterExit s).seq.w = .iWrite := if_pos hi
  rw [seqStep_busy (by exact hb), wStep, hw]
  exact iWriteStep_execute (s := enterExit s) ha rfl

/-- With none scheduled it returns at once. -/
theorem seqStep_exit_plain (hb : s.busy = true) (hi : s.idlep = false) : seqStep (enterExit s) = leaveExecute s := by
  have hw : (enterExit s).seq.w = .off := if_neg (by simp [hi])
  refine (seqStep_executor (by exact hb) hw).trans ?_
  change xExitStep (enterExit s) = _
  rw [xExitStep, if_neg (by simp [hi])]
  rfl

/-! ### A body that fails (R224 to R229) -/

/-- What `verify` raises can be read back from the error registers (R281, R284). -/
theorem raisedError_of_verifyResult {buf : Bytes} (h : verifyResult s.par.statusMap buf = .error e) :
    raisedError (setError e s) = some e := by
  cases hc : checkResponse buf with
  | malformed => cases (verifyResult_malformed hc).symm.trans h; rfl
  | badChecksum => cases (verifyResult_badChecksum hc).symm.trans h; rfl
  | data p => cases (verifyResult_data hc).symm.trans h
  | status b =>
    have hstatus := (verifyResult_status hc).symm.trans h
    unfold statusResult at hstatus
    split_ifs at hstatus <;> cases hstatus <;> rfl

/-- From `s` to `t` an EXECUTE has made these events and has left these answers; nothing has changed of what its exit
and the operation around it read. -/
structure Made (es : List Event) (ws : List WrAnswer) (rs : List RdAnswer) (s t : State) : Prop where
  trace : t.trace = s.trace ++ es := by rfl
  wrAns : t.wrAns = ws := by rfl
  rdAns : t.rdAns = rs := by rfl
  busy : t.busy = s.busy := by rfl
  op : t.seq.op = s.seq.op := by rfl
  l : t.seq.l = s.seq.l := by rfl
  idlep : t.idlep = s.idlep := by rfl
  pwr : t.pwr = s.pwr := by rfl
  text : t.text = s.text := by rfl
  config : SameConfig s t := by exact ⟨rfl, rfl, rfl, rfl, rfl⟩

/-- A body that fails goes to the exit with its error recorded. -/
theorem reaches_bodyFailure {f : BodyFailure} (h : AtEncode s) (hf : f.genuine s.par.statusMap)
    (ha : s.wrAns = f.writes ++ ws) (hr : s.rdAns = f.reads ++ rs) :
    ∃ t, Reaches s (enterExit t) ∧ Made (f.events s (frameOf s)) ws rs s t ∧ raisedError t = some f.error := by
  cases f with
  | command e =>
    replace hr : s.rdAns = rs := hr
    have hcommand := reaches_xWrcmd h
    rw [ha, hr] at hcommand
    exact ⟨_, hcommand.step (seqStep_xWrcmd_err h.busy ..), {}, rfl⟩
  | trigger e =>
    replace hr : s.rdAns = rs := hr
    have htrigger := reaches_xTrig h ha
    rw [hr] at htrigger
    exact ⟨_, htrigger.step (seqStep_xTrig_err h.busy ..), {}, rfl⟩
  | length e =>
    have hlength := reaches_xRdlen h ha
    rw [hr] at hlength
    exact ⟨_, hlength.step (seqStep_xRdlen_err h.busy ..), {}, rfl⟩
  | frame len e =>
    have hframe := reaches_xRdfrm h ha hr
    exact ⟨_, hframe.step (seqStep_xRdfrm_err (s := { s with rlen := len }) h.busy ..), {}, rfl⟩
  | response len resp err =>
    let u := bodyAt { s with rlen := len, rxbuf := resp } .xVerify (bodyEvents s (frameOf s) len resp) ws rs
    have hresult : verifyResult s.par.statusMap resp = .error err := hf
    have hverify : seqStep u = .moved (enterExit (recordVerified (.error err) (verifyWrites u))) := by
      rw [← hresult]
      exact seqStep_xVerify (s := { s with rlen := len, rxbuf := resp }) h.busy ..
    obtain ⟨c, b, st, hv⟩ := verifyWrites_eq u
    have herr : raisedError (recordVerified (.error err) (verifyWrites u)) = some err :=
      raisedError_of_verifyResult (by rw [hv]; exact hresult)
    obtain ⟨k, info, v, hrecord⟩ := recordVerified_eq (.error err) (verifyWrites u)
    rw [hrecord, hv] at hverify herr
    exact ⟨_, (reaches_xVerify h ha hr).step hverify, {}, herr⟩

/-! ### A wrapped exchange that fails (R221, R230) -/

/-- A failed wake returns at once with its error (R221, R290 (b)). -/
theorem wakeFailure_returns {ans : RdAnswer} {err : OpError} (h : AtWake s)
    (hf : (ExchangeFailure.wake a ans err).genuine s.par.statusMap) (ha : s.wrAns = a :: ws)
    (hr : s.rdAns = ans :: rs) :
    ∃ u t, Reaches s u ∧ seqStep u = leaveExecute t ∧ Made (wakeEvents s a ans) ws rs s t ∧
      t.txbuf = s.txbuf ∧ raisedError t = some err := by
  obtain ⟨hb, hx, hw, -⟩ := h
  cases ans with
  | err e =>
    obtain rfl : err = .transportError e := hf
    have hread := seqStep_wakeSettled_err (a := a) (ws := ws) hb hr
    rw [raise_inWake (by exact hx)] at hread
    exact ⟨_, _, ⟨2, runSeq_wakeSettled hb hw ha⟩, hread, {}, rfl, rfl⟩
  | bytes resp =>
    obtain ⟨rfl, hbad⟩ := hf
    have hverify : seqStep (wakeReceived s a ws resp rs) =
        leaveExecute (setError .wakeFailed (verifyWrites (wakeReceived s a ws resp rs))) := by
      refine (seqStep_busy (by exact hb)).trans ?_
      refine (finishVerify_wakeFailed (by rw [verifyWrites_seq]; rfl) hbad).trans ?_
      exact raise_inWake (by rw [verifyWrites_seq]; exact hx) _
    obtain ⟨c, b, st, hv⟩ := verifyWrites_eq (wakeReceived s a ws resp rs)
    rw [hv] at hverify
    exact ⟨_, _, ⟨3, runSeq_wakeReceived hb hw ha hr⟩, hverify, {}, rfl, rfl⟩

/-- What a wrapped exchange that failed has left when it returns: after a failed wake no frame, no idle and no change of
`PWR` (R221), after a failed body its idle write (R230). -/
structure ExchangeFailed (f : ExchangeFailure) (ws : List WrAnswer) (rs : List RdAnswer) (s t : State) : Prop where
  trace : t.trace = s.trace ++ f.events s (frameOf s)
  wrAns : t.wrAns = ws
  rdAns : t.rdAns = rs
  op : t.seq.op = s.seq.op
  l : t.seq.l = s.seq.l
  idlep : t.idlep = false
  pwr : t.pwr = if f.inWake then s.pwr else .idle
  txbuf : f.inWake = true → t.txbuf = s.txbuf
  text : t.text = s.text
  config : SameConfig s t
  error : raisedError t = some f.error

theorem idleEvent_congr (h : SameConfig s t) (a : WrAnswer) : idleEvent t a = idleEvent s a := by
  obtain ⟨hbus, hdev, -, hreg, -⟩ := h
  rw [idleEvent, idleEvent, hbus, hdev, hreg]

theorem exchangeFailure_returns {f : ExchangeFailure} (h : AtWake s) (hi : s.idlep = false)
    (hf : f.genuine s.par.statusMap) (ha : s.wrAns = f.writes ++ ws) (hr : s.rdAns = f.reads ++ rs) :
    ∃ u t, Reaches s u ∧ seqStep u = leaveExecute t ∧ ExchangeFailed f ws rs s t := by
  cases f with
  | wake a ans err =>
    obtain ⟨u, t, hreach, hstep, hmade, htx, herr⟩ := wakeFailure_returns h hf ha hr
    exact ⟨u, t, hreach, hstep, { hmade with
      idlep := hmade.idlep.trans hi, pwr := hmade.pwr, txbuf := fun _ => htx, error := herr }⟩
  | body a wake f i =>
    obtain ⟨hwake, hfail⟩ := hf
    have ha' : s.wrAns = a :: (f.writes ++ i :: ws) := by simpa [ExchangeFailure.writes] using ha
    have hpassed := reaches_wakePassed h hwake ha' hr
    obtain ⟨t, hbody, hmade, herr⟩ := reaches_bodyFailure
      (s := wakePassed s a (f.writes ++ i :: ws) wake (f.reads ++ rs)) ⟨h.busy, rfl, rfl⟩ hfail rfl rfl
    have hconfig : SameConfig s t := hmade.config
    have htrace : t.trace ++ [idleEvent t i] =
        s.trace ++ (ExchangeFailure.body a wake f i).events s (frameOf s) := by
      rw [hmade.trace, idleEvent_congr hconfig]
      simp only [ExchangeFailure.events, ← List.append_assoc]
      rfl
    exact ⟨_, _, hpassed.trans hbody, seqStep_exit_idle (hmade.busy.trans h.busy) hmade.idlep hmade.wrAns, {
      trace := htrace, wrAns := rfl, rdAns := hmade.rdAns, op := hmade.op, l := hmade.l, idlep := rfl, pwr := rfl,
      txbuf := nofun, text := hmade.text, config := hconfig, error := herr }⟩

/-! ### A body that goes through -/

/-- The state of an EXECUTE whose response has verified (R164, R229). -/
def responseVerified (s : State) (len : Byte) (resp : Bytes) (ws : List WrAnswer) (rs : List RdAnswer) : State :=
  { bodyAt { s with rlen := len, rxbuf := resp } .xVerify (bodyEvents s (frameOf s) len resp) ws rs with
    crc := crcReg (frameBody resp), stb := if resp.length = 4 then resp.getD 1 0#8 else s.stb
    status := if resp.length = 4 then some (stdec s.par.statusMap (resp.getD 1 0#8)) else s.status }

/-- What verifies is a 4-byte frame with its status, or a longer frame with none (R167, R168). -/
theorem verifyResult_ok_cases {m : StatusMap} {buf p : Bytes} {st : Option Status} (h : verifyResult m buf = .ok p st) :
    (buf.length = 4 ∧ checkResponse buf = .status (buf.getD 1 0#8) ∧ st = some (stdec m (buf.getD 1 0#8))) ∨
      (buf.length ≠ 4 ∧ (∃ q, checkResponse buf = .data q) ∧ st = none) := by
  have hlen := length_of_verifyResult_ok h
  have hcrc : crcOk buf = true := by
    by_contra hbad
    cases (verifyResult_badChecksum (checkResponse_badChecksum hlen hbad)).symm.trans h
  by_cases hl : buf.length = 4
  · have hc := checkResponse_status hl hcrc
    have hstatus := (verifyResult_status hc).symm.trans h
    unfold statusResult at hstatus
    split_ifs at hstatus
    cases hstatus
    exact .inl ⟨hl, hc, rfl⟩
  · have hc := checkResponse_data (lt_of_le_of_ne hlen (Ne.symm hl)) hcrc
    cases (verifyResult_data hc).symm.trans h
    exact .inr ⟨hl, ⟨_, hc⟩, rfl⟩

theorem reaches_responseVerified {p : Bytes} {st : Option Status} (h : AtEncode s)
    (hok : verifyResult s.par.statusMap resp = .ok p st) (ha : s.wrAns = .ok :: .ok :: ws)
    (hr : s.rdAns = .bytes [len] :: .bytes resp :: rs) :
    Reaches s (enterExit (responseVerified s len resp ws rs)) := by
  have hverify := seqStep_xVerify (s := { s with rlen := len, rxbuf := resp }) h.busy
    (bodyEvents s (frameOf s) len resp) ws rs
  have hwrites : verifyWrites
      (bodyAt { s with rlen := len, rxbuf := resp } .xVerify (bodyEvents s (frameOf s) len resp) ws rs) =
        responseVerified s len resp ws rs := by
    rcases verifyResult_ok_cases hok with ⟨hl, hc, -⟩ | ⟨hl, ⟨q, hc⟩, -⟩
    · rw [verifyWrites_status (by exact hc), responseVerified, if_pos hl, if_pos hl]
      rfl
    · rw [verifyWrites_data (by exact hc), responseVerified, if_neg hl, if_neg hl]
      rfl
  rw [hok, hwrites] at hverify
  exact (reaches_xVerify h ha hr).step hverify

/-- The state in which a wrapped exchange that went through returns, its idle write made (R220, R230, R232). -/
def exchanged (s : State) (g : Exchange) (ws : List WrAnswer) (rs : List RdAnswer) : State :=
  { s with
    cnt := countByte s.data.length, crc := crcReg (frameBody g.resp), txbuf := frameOf s, rlen := g.len,
    rxbuf := g.resp, stb := if g.resp.length = 4 then g.resp.getD 1 0#8 else s.par.statusMap.afterWake
    status := some (g.lastStatus s.par.statusMap), pwr := .idle, idlep := false, wrAns := ws, rdAns := rs,
    trace := s.trace ++ g.events s (frameOf s), seq := ⟨s.seq.op, s.seq.l, .off, .off⟩ }

/-- The whole exchange, over what its wake, its body and its idle write have left. -/
theorem idleWritten_responseVerified (s : State) (g : Exchange) (ws ws' ws'' : List WrAnswer) (rs rs' : List RdAnswer) :
    idleWritten (responseVerified (wakePassed s g.wakeAns ws'' g.wakeResp rs') g.len g.resp ws' rs) g.idleAns ws =
      exchanged s g ws rs := by
  simp only [idleWritten, responseVerified, wakePassed, bodyAt, exchanged, Exchange.lastStatus, Exchange.events,
    apply_ite some, List.append_assoc]
  rfl

/-- A wrapped exchange that goes through returns with its response. -/
theorem exchange_returns {g : Exchange} (h : AtWake s) (hg : g.good s.par.statusMap) (ha : s.wrAns = g.writes ++ ws)
    (hr : s.rdAns = g.reads ++ rs) : ∃ t, Reaches s t ∧ seqStep t = leaveExecute (exchanged s g ws rs) := by
  obtain ⟨hwake, st, hok⟩ := hg
  have hpassed := reaches_wakePassed h hwake ha hr
  have hbody := reaches_responseVerified (s := wakePassed s g.wakeAns (.ok :: .ok :: g.idleAns :: ws) g.wakeResp
    (.bytes [g.len] :: .bytes g.resp :: rs)) ⟨h.busy, rfl, rfl⟩ hok rfl rfl
  refine ⟨_, hpassed.trans hbody, ?_⟩
  rw [← idleWritten_responseVerified]
  exact seqStep_exit_idle h.busy rfl rfl

end Sys2Proof.Machine
end

section
/-! TRIG_WR at its step, EXECUTE of the host, and the statements about them (R220 to R232). -/

namespace Sys2Proof.Machine

variable {s t v : State} {ws : List WrAnswer} {rs : List RdAnswer}

/-- Settles O21: the step's answer decides between `X_RDLEN` and the exit with the error recorded. -/
theorem triggerWriteRow : Obligations.TriggerWriteRow := by
  intro ws s hw hx
  refine ⟨fun ha => ?_, fun e ha => ?_⟩
  · change ofSeq s (xTrigStep s) = _
    rw [xTrigStep_ok ha, advanceX, hx]
    rfl
  · change ofSeq s (xTrigStep s) = _
    rw [xTrigStep_err ha, raise_inBody (by simp [hx, inBody])]
    rfl

/-! ### EXECUTE of the host from its first step to its end -/

/-- The state in which an EXECUTE of the host stands at its first step (R220). -/
def executeStart (w : Bool) (opc p1 p2a p2b : Byte) (data : Bytes) (s : State) : State :=
  beginExecute opc p1 p2a p2b data w (accept .execute s)

theorem atWake_executeStart (opc p1 p2a p2b : Byte) (data : Bytes) (s : State) :
    AtWake (executeStart true opc p1 p2a p2b data s) := ⟨rfl, rfl, rfl, rfl⟩

/-- The same at the first step of its body when it has no wake (R221, R222). -/
def executeBody (opc p1 p2a p2b : Byte) (data : Bytes) (s : State) : State :=
  { executeStart false opc p1 p2a p2b data s with seq := ⟨.execute, .off, .xEncode, .off⟩ }

theorem reaches_executeBody (opc p1 p2a p2b : Byte) (data : Bytes) (s : State) :
    Reaches (executeStart false opc p1 p2a p2b data s) (executeBody opc p1 p2a p2b data s) :=
  reaches_unwrapped (s := executeStart false opc p1 p2a p2b data s) rfl rfl rfl rfl

/-- An EXECUTE that returns ends the operation. -/
theorem exec_execute_returns {w : Bool} {opc p1 p2a p2b : Byte} {data : Bytes} {o : OpOutcome} (hs : Undisturbed s)
    (hd : data.length ≤ 248) (hr : Reaches (executeStart w opc p1 p2a p2b data s) t)
    (hstep : seqStep t = leaveExecute v) (hl : v.seq.l = .off) (ho : endOperation (executeDone v) = deliver o v) :
    exec (.execute w opc p1 p2a p2b data) s = .next (deliver o v) :=
  (FirstStep.execute w opc p1 p2a p2b data hd).exec_next hs hr
    (hstep.trans ((leaveExecute_host hl).trans (congrArg _ ho))) rfl

/-- Settles O25: the exchange returns with its response and no error. -/
theorem executeWrappedExchange : Obligations.ExecuteWrappedExchange := by
  intro opc p1 p2a p2b data g ws rs s hs hd hg ha hr
  obtain ⟨t, hreach, hstep⟩ := exchange_returns (atWake_executeStart opc p1 p2a p2b data s) hg ha hr
  have hexec := exec_execute_returns hs hd hreach hstep rfl (endOperation_ok rfl)
  exact ⟨_, hexec, ⟨rfl, rfl⟩, rfl, rfl, rfl, rfl, rfl, rfl, rfl, rfl, rfl, (exec_frame hexec).config, rfl⟩

/-- Settles O26: the body returns with its response, and `verify` has written `STATUS` for a 4-byte one only. -/
theorem executeUnwrappedExchange : Obligations.ExecuteUnwrappedExchange := by
  intro opc p1 p2a p2b data len resp st ws rs s hs hd hok ha hr
  have hbody := reaches_responseVerified (s := executeBody opc p1 p2a p2b data s) ⟨rfl, rfl, rfl⟩ hok ha hr
  have hexec := exec_execute_returns hs hd ((reaches_executeBody ..).trans hbody)
    (seqStep_exit_plain (by exact rfl) (by exact rfl)) rfl (endOperation_ok rfl)
  refine ⟨_, hexec, ⟨rfl, rfl⟩, rfl, rfl, rfl, ?_, rfl, rfl, (exec_frame hexec).config, rfl⟩
  rcases verifyResult_ok_cases hok with ⟨hl, -, hst⟩ | ⟨hl, -, hst⟩
  · exact (if_pos hl).trans hst.symm
  · exact (if_neg hl).trans hst.symm

/-- A wrapped exchange that fails ends an EXECUTE of the host with its error. -/
theorem exec_execute_fails {f : ExchangeFailure} (opc p1 p2a p2b : Byte) {data : Bytes} (hs : Undisturbed s)
    (hd : data.length ≤ 248) (hf : f.genuine s.par.statusMap) (ha : s.wrAns = f.writes ++ ws)
    (hr : s.rdAns = f.reads ++ rs) :
    ∃ t, exec (.execute true opc p1 p2a p2b data) s = .next (deliver (.error f.error) t) ∧
      ExchangeFailed f ws rs (executeStart true opc p1 p2a p2b data s) t := by
  obtain ⟨u, t, hreach, hstep, hfailed⟩ :=
    exchangeFailure_returns (atWake_executeStart opc p1 p2a p2b data s) rfl hf ha hr
  exact ⟨t, exec_execute_returns hs hd hreach hstep hfailed.l (endOperation_error (s := executeDone t) hfailed.error),
    hfailed⟩

/-- Settles O27: the failure goes to the exit with its error recorded, which the exit does not write. -/
theorem executeBodyErrorStillIdles : Obligations.ExecuteBodyErrorStillIdles := by
  intro opc p1 p2a p2b data f ws rs s hs hd hf
  refine ⟨fun a i wake hwake ha hr => ?_, fun ha hr => ?_⟩
  · have ha' : s.wrAns = (ExchangeFailure.body a wake f i).writes ++ ws := by simpa [ExchangeFailure.writes] using ha
    obtain ⟨t, hexec, hfailed⟩ :=
      exec_execute_fails (f := .body a wake f i) opc p1 p2a p2b hs hd ⟨hwake, hf⟩ ha' hr
    refine ⟨_, hexec, ⟨rfl, rfl⟩, hfailed.pwr, hfailed.idlep, hfailed.wrAns, hfailed.rdAns,
      (exec_frame hexec).config, ?_⟩
    refine (congrArg (· ++ [.outcome (.error f.error)]) hfailed.trace).trans ?_
    simp only [ExchangeFailure.events, List.append_assoc]
    rfl
  · obtain ⟨t, hbody, hmade, herr⟩ :=
      reaches_bodyFailure (s := executeBody opc p1 p2a p2b data s) ⟨rfl, rfl, rfl⟩ hf ha hr
    have hexec := exec_execute_returns hs hd ((reaches_executeBody ..).trans hbody)
      (seqStep_exit_plain hmade.busy hmade.idlep) hmade.l (endOperation_error (s := executeDone t) herr)
    refine ⟨_, hexec, ⟨rfl, rfl⟩, hmade.pwr, hmade.idlep, hmade.wrAns, hmade.rdAns,
      (exec_frame hexec).config, ?_⟩
    exact congrArg (· ++ [.outcome (.error f.error)]) hmade.trace

/-- Settles O28: the wake's error is the outcome, and no frame was made. -/
theorem executeFailedWakeStopsAtOnce : Obligations.ExecuteFailedWakeStopsAtOnce := by
  intro opc p1 p2a p2b data a ans err ws rs s hs hd ha hr hbad
  have hf : (ExchangeFailure.wake a ans err).genuine s.par.statusMap := by
    rcases hbad with ⟨e, rfl, rfl⟩ | ⟨resp, rfl, rfl, hbad⟩
    · rfl
    · exact ⟨rfl, hbad⟩
  obtain ⟨t, hexec, hfailed⟩ := exec_execute_fails opc p1 p2a p2b hs hd hf ha hr
  refine ⟨_, hexec, ⟨rfl, rfl⟩, hfailed.pwr, hfailed.idlep, hfailed.txbuf rfl, hfailed.wrAns,
    hfailed.rdAns, (exec_frame hexec).config, ?_⟩
  exact congrArg (· ++ [.outcome (.error err)]) hfailed.trace

end Sys2Proof.Machine
end

section
/-! The exchanges of a library operation one after the other (R241, R247, R256), and the statement about the two faults
of short answers (R227, R242, R283). -/

namespace Sys2Proof.Machine

variable {s : State} {a : WrAnswer} {ws : List WrAnswer} {rs : List RdAnswer}

/-! ### A length read of zero bytes in the run of an EXECUTE (R227) -/

/-- The operation around an EXECUTE plays no part in its body: a length read of zero bytes is the fault (R227). -/
theorem shortLength_faults (h : AtEncode s) (ha : s.wrAns = .ok :: .ok :: ws) (hr : s.rdAns = .bytes [] :: rs) :
    ∃ t, Reaches s t ∧ seqStep t = .fault .noLengthByte := by
  have hlength := reaches_xRdlen h ha
  rw [hr] at hlength
  exact ⟨_, hlength, seqStep_xRdlen_empty h.busy ..⟩

theorem shortLength_faults_wrapped {wake : Bytes} (h : AtWake s) (hok : WakesUp s.par.statusMap wake)
    (ha : s.wrAns = a :: .ok :: .ok :: ws) (hr : s.rdAns = .bytes wake :: .bytes [] :: rs) :
    ∃ t, Reaches s t ∧ seqStep t = .fault .noLengthByte := by
  obtain ⟨t, hbody, hfault⟩ := shortLength_faults
    (s := wakePassed s a (.ok :: .ok :: ws) wake (.bytes [] :: rs)) ⟨h.busy, rfl, rfl⟩ rfl rfl
  exact ⟨t, (reaches_wakePassed h hok ha hr).trans hbody, hfault⟩

/-! ### The exchanges of a library operation -/

/-- The exchanges a library operation has still to make, with the one it stands at (R241, R247, R256). -/
def exchangesLeft (s : State) : Nat :=
  match s.seq.op, s.seq.l with
  | .sha256, .lExec => 2 + (blockCount s.msg - s.blk)
  | .sha256, .lUpdate => 1 + (blockCount s.msg - s.blk)
  | _, _ => 1

/-- Only SHA256 has more than one, at its Start and at its Updates. -/
theorem of_one_lt_exchangesLeft (h : 1 < exchangesLeft s) :
    s.seq.op = .sha256 ∧
      (s.seq.l = .lExec ∧ exchangesLeft s = 2 + (blockCount s.msg - s.blk) ∨
        s.seq.l = .lUpdate ∧ exchangesLeft s = 1 + (blockCount s.msg - s.blk)) := by
  unfold exchangesLeft at h ⊢
  split at h
  case h_1 hop hl => exact ⟨hop, .inl ⟨hl, rfl⟩⟩
  case h_2 hop hl => exact ⟨hop, .inr ⟨hl, rfl⟩⟩
  case h_3 => exact absurd h (Nat.lt_irrefl 1)

theorem exchangesLeft_enterUpdate (hop : s.seq.op = .sha256) :
    exchangesLeft (enterUpdate s) = 1 + (blockCount s.msg - s.blk) := by
  unfold exchangesLeft
  rw [enterUpdate_seq, hop, enterUpdate_blk, (enterUpdate_keeps s).msg]
  by_cases hblk : s.blk < blockCount s.msg
  · rw [if_pos hblk]
  · rw [if_neg hblk]
    dsimp only
    omega

/-- A library operation stands at the first step of one of its exchanges, with `n` of them left and these answers to
come. -/
structure AtExchange (p : Params) (n : Nat) (ws : List WrAnswer) (rs : List RdAnswer) (s : State) : Prop where
  wake : AtWake s
  place : InExecute s
  l : s.seq.l ≠ .off
  err : s.err = .none
  par : s.par = p
  left : exchangesLeft s = n
  wrAns : s.wrAns = ws
  rdAns : s.rdAns = rs

/-- The last exchange of a library operation leads to its output (R241, R247, R260). -/
theorem reaches_enterFormat {g : Exchange} (h : AtWake s) (hin : InExecute s) (hl : s.seq.l ≠ .off)
    (he : s.err = .none) (hlast : s.seq.op ≠ .sha256 ∨ s.seq.l = .lEnd) (hg : g.good s.par.statusMap)
    (ha : s.wrAns = g.writes ++ ws) (hr : s.rdAns = g.reads ++ rs) :
    Reaches s (enterFormat (exchanged s g ws rs)) := by
  obtain ⟨t, hreach, hstep⟩ := exchange_returns h hg ha hr
  rcases leaveExecute_library_cases (hin.of_eq (t := exchanged s g ws rs) rfl rfl rfl) hl with
    ⟨-, -, hmove⟩ | ⟨-, ⟨hop, hne⟩, -⟩ | ⟨hne, -⟩ | ⟨hne, -⟩
  · exact hreach.step (hstep.trans hmove)
  · exact (hlast.elim (absurd hop) hne).elim
  all_goals exact absurd he hne

/-- Any other leads to the next exchange of SHA256 (R258, R259). -/
theorem reaches_enterUpdate {g : Exchange} (h : AtWake s) (hin : InExecute s) (hl : s.seq.l ≠ .off)
    (he : s.err = .none) (hmore : s.seq.op = .sha256 ∧ s.seq.l ≠ .lEnd) (hg : g.good s.par.statusMap)
    (ha : s.wrAns = g.writes ++ ws) (hr : s.rdAns = g.reads ++ rs) :
    Reaches s (enterUpdate { exchanged s g ws rs with blk := s.blk + if s.seq.l = .lUpdate then 1 else 0 }) := by
  obtain ⟨t, hreach, hstep⟩ := exchange_returns h hg ha hr
  rcases leaveExecute_library_cases (hin.of_eq (t := exchanged s g ws rs) rfl rfl rfl) hl with
    ⟨-, hlast, -⟩ | ⟨-, -, hmove⟩ | ⟨hne, -⟩ | ⟨hne, -⟩
  · exact (hlast.elim (absurd hmore.1) hmore.2).elim
  · exact hreach.step (hstep.trans hmove)
  all_goals exact absurd he hne

@[simp] theorem enterUpdate_wrap (s : State) : (enterUpdate s).wrap = true := by
  unfold enterUpdate; split <;> rfl

@[simp] theorem enterUpdate_par (s : State) : (enterUpdate s).par = s.par := by
  unfold enterUpdate; split <;> rfl

theorem atExchange_enterUpdate (hb : s.busy = true) (he : s.err = .none) (hop : s.seq.op = .sha256) :
    AtExchange s.par (1 + (blockCount s.msg - s.blk)) s.wrAns s.rdAns (enterUpdate s) := by
  have hkeeps := enterUpdate_keeps s
  have hl : (enterUpdate s).seq.l = .lUpdate ∨ (enterUpdate s).seq.l = .lEnd := by
    rw [enterUpdate_seq]
    dsimp only
    split <;> simp
  exact {
    wake := ⟨by simpa using hb, by simp, by simp, by simp⟩
    place := .later (by simpa using hop) hl (by simp)
    l := by rcases hl with hl | hl <;> rw [hl] <;> nofun
    err := hkeeps.err.trans he
    par := by simp
    left := exchangesLeft_enterUpdate hop
    wrAns := hkeeps.wrAns
    rdAns := hkeeps.rdAns }

/-- An exchange that goes through leads to the next one. -/
theorem AtExchange.next {p : Params} {n : Nat} {g : Exchange}
    (h : AtExchange p (n + 2) (g.writes ++ ws) (g.reads ++ rs) s) (hg : g.good p.statusMap) :
    ∃ t, Reaches s t ∧ AtExchange p (n + 1) ws rs t := by
  obtain ⟨hwake, hin, hl, he, rfl, hleft, ha, hr⟩ := h
  obtain ⟨hop, hcount⟩ := of_one_lt_exchangesLeft (s := s) (by omega)
  have hmore : s.seq.l ≠ .lEnd := by rcases hcount with ⟨hl, -⟩ | ⟨hl, -⟩ <;> rw [hl] <;> nofun
  have hreach := reaches_enterUpdate hwake hin hl he ⟨hop, hmore⟩ hg ha hr
  have hnext := atExchange_enterUpdate
    (s := { exchanged s g ws rs with blk := s.blk + if s.seq.l = .lUpdate then 1 else 0 }) hwake.busy he hop
  have hless : 1 + (blockCount s.msg - (s.blk + if s.seq.l = .lUpdate then 1 else 0)) = n + 1 := by
    rcases hcount with ⟨hl, hcount⟩ | ⟨hl, hcount⟩
    · rw [if_neg (by rw [hl]; nofun)]
      omega
    · rw [if_pos hl]
      omega
  exact ⟨_, hreach, hless ▸ hnext⟩

/-- The exchanges `gs` go through, with at least one more to make. -/
theorem AtExchange.nexts {p : Params} {gs : List Exchange} {n : Nat}
    (h : AtExchange p n (gs.flatMap Exchange.writes ++ ws) (gs.flatMap Exchange.reads ++ rs) s) (hn : gs.length < n)
    (hgs : ∀ g ∈ gs, g.good p.statusMap) : ∃ t, Reaches s t ∧ AtExchange p (n - gs.length) ws rs t := by
  induction gs generalizing s n with
  | nil => exact ⟨s, .refl _, h⟩
  | cons g gs ih =>
    obtain ⟨k, rfl⟩ : ∃ k, n = k + 2 := ⟨n - 2, by rw [List.length_cons] at hn; omega⟩
    rw [List.flatMap_cons, List.flatMap_cons, List.append_assoc, List.append_assoc] at h
    obtain ⟨t, hreach, ht⟩ := h.next (hgs g (by simp))
    obtain ⟨u, hrest, hu⟩ := ih ht (by simpa using hn) fun g' hg' => hgs g' (by simp [hg'])
    exact ⟨u, hreach.trans hrest, by simpa using hu⟩

/-- IDREAD and SELFTEST make one exchange, SHA256 one for each block and two more (R241, R247, R256). -/
theorem reaches_firstExchange {i : Instr} {n : Nat} (hi : (i = .idread ∧ n = 1) ∨ (i = .selftest ∧ n = 1) ∨
      ∃ isHex text msg, i = .sha256 isHex text ∧ n = 2 + msg.length / 64 ∧
        if isHex then hexDecode text = some msg else msg = text) :
    ∃ u t, FirstStep s i u ∧ Reaches u t ∧ AtExchange s.par n s.wrAns s.rdAns t := by
  rcases hi with ⟨rfl, rfl⟩ | ⟨rfl, rfl⟩ | ⟨isHex, text, msg, rfl, rfl, hmsg⟩
  · exact ⟨_, _, .idread, .refl _, ⟨rfl, rfl, rfl, rfl⟩, .first rfl rfl rfl, nofun, rfl, rfl, rfl, rfl, rfl⟩
  · exact ⟨_, _, .selftest, .refl _, ⟨rfl, rfl, rfl, rfl⟩, .first rfl rfl rfl, nofun, rfl, rfl, rfl, rfl, rfl⟩
  · have hbytes : (if isHex = true then hexDecode text else some text) = some msg := by
      cases isHex
      · simpa using hmsg.symm
      · simpa using hmsg
    have hstep := lPrepStep_some (s := { accept .sha256 s with
      seq := ⟨.sha256, .lPrep, .off, .off⟩, hashText := text, hashHex := isHex }) hbytes
    exact ⟨_, _, .sha256 isHex text, .of_moved hstep, ⟨rfl, rfl, rfl, rfl⟩, .first rfl rfl rfl, nofun, rfl, rfl, rfl,
      rfl, rfl⟩

/-! ### The two faults -/

/-- In the invariant nothing is nested in a step of the body (R28). -/
theorem w_of_inBody (h : StateInv s = true) (hx : inBody s.seq.x = true) : s.seq.w = .off := by
  cases ((stateInv_iff s).1 h).2 with
  | execute _ _ hn =>
    obtain ⟨-, -, hw⟩ := body_of_exchangeNested hx hn
    exact hw
  | quiet _ hseq => simp [hseq, inBody] at hx
  | wake _ _ _ hx' | sleep _ _ _ hx' | idle _ _ _ hx' | prepare _ _ _ hx' | format _ _ _ hx' | librarySleep _ _ _ hx' =>
    simp [hx', inBody] at hx

/-- The fault of a length read of zero bytes, as a sequencer step and as a step of the machine left to AFC (R227). -/
theorem shortLength_faults_step (h : StateInv s = true) (hb : s.busy = true) (hx : s.seq.x = .xRdlen)
    (hr : s.rdAns = .bytes [] :: rs) :
    seqStep s = .fault .noLengthByte ∧
      (s.inputs = [] ∨ s.inputs.head? = some .pass → step s = .fault .noLengthByte) := by
  have hw := w_of_inBody h (by simp [hx, inBody])
  have hfault (ins : List Input) : seqStep { s with inputs := ins } = .fault .noLengthByte := by
    refine (seqStep_executor (by exact hb) (by exact hw)).trans ?_
    simp only [xStep, hx]
    exact xRdlenStep_empty hr
  have hown (ins : List Input) : ownStep { s with inputs := ins } = .fault .noLengthByte := by
    rw [ownStep, hfault, ofSeq]
  refine ⟨hfault s.inputs, fun hin => ?_⟩
  rcases hin with hin | hin
  · exact (step_no_input hin).trans (hown s.inputs)
  · obtain ⟨rest, hrest⟩ := List.head?_eq_some_iff.1 hin
    exact (step_input hrest).trans (hown rest)

/-- The fault of a short identity payload (R242). -/
theorem exec_idread_short {g : Exchange} (hs : Undisturbed s) (hg : g.good s.par.statusMap)
    (hp : (payloadOf g.resp).length < 13) (ha : s.wrAns = g.writes ++ ws) (hr : s.rdAns = g.reads ++ rs) :
    exec .idread s = .fault .shortPayload := by
  let u := beginLibExecute .lExec s.par.opcRead Config.readP1 0#8 0#8 [] (accept .idread s)
  have hreach : Reaches u (enterFormat (exchanged u g ws rs)) :=
    reaches_enterFormat ⟨rfl, rfl, rfl, rfl⟩ (.first rfl rfl rfl) nofun rfl (.inl nofun) hg ha hr
  have hshort : outputText (enterFormat (exchanged u g ws rs)) = .error .shortPayload := if_pos hp
  exact FirstStep.idread.exec_fault hs hreach (lFormatStep_error hshort)

/-- Settles O31: the run comes to `X_RDLEN` or `L_FORMAT`, whatever operation it is of, and faults there. -/
theorem shortAnswersFault : Obligations.ShortAnswersFault := by
  refine ⟨fun rs s => shortLength_faults_step, fun opc p1 p2a p2b data ws rs s hs hd => ⟨fun ha hr => ?unwrapped,
      fun a wake hok ha hr => ?wrapped⟩,
    fun i n gs a wake ws rs s hs hi hn hgs hok ha hr => ?library, fun g ws rs s => exec_idread_short⟩
  case unwrapped =>
    obtain ⟨t, hreach, hfault⟩ := shortLength_faults (s := executeBody opc p1 p2a p2b data s) ⟨rfl, rfl, rfl⟩ ha hr
    exact (FirstStep.execute false opc p1 p2a p2b data hd).exec_fault hs ((reaches_executeBody ..).trans hreach) hfault
  case wrapped =>
    obtain ⟨t, hreach, hfault⟩ := shortLength_faults_wrapped (atWake_executeStart opc p1 p2a p2b data s) hok ha hr
    exact (FirstStep.execute true opc p1 p2a p2b data hd).exec_fault hs hreach hfault
  case library =>
    obtain ⟨u, first, hfirst, hstart, hleft⟩ := reaches_firstExchange (s := s) hi
    rw [ha, hr] at hleft
    obtain ⟨last, hgone, hlast⟩ := hleft.nexts hn hgs
    obtain ⟨t, hbody, hfault⟩ := shortLength_faults_wrapped hlast.wake (by rwa [hlast.par]) hlast.wrAns hlast.rdAns
    exact hfirst.exec_fault hs ((hstart.trans hgone).trans hbody) hfault

end Sys2Proof.Machine
end

section
/-! The pure functions of the command library: a message and its hash blocks (45_command_library.md R255), and
hexadecimal texts (R10, R262). -/

namespace Sys2Proof

/-! ### The blocks of a message (R255) -/

/-- The first `n` blocks are the first `64 n` bytes. -/
theorem flatten_hashBlocks (msg : Bytes) (n : Nat) :
    ((List.range n).map (hashBlock msg)).flatten = msg.take (Config.block * n) := by
  induction n with
  | zero => simp
  | succ n ih => simp [List.range_succ, ih, Nat.mul_succ, List.take_add, hashBlock]

/-- A block before the last full one has 64 bytes. -/
theorem hashBlock_length {msg : Bytes} {i : Nat} (hi : i < blockCount msg) : (hashBlock msg i).length = 64 := by
  simp only [blockCount, Config.block] at hi
  simp only [hashBlock, Config.block, List.length_take, List.length_drop]
  omega

/-- Settles O38: the blocks are the message up to where its tail begins. -/
theorem messageSplitsIntoBlocksAndTail : Obligations.MessageSplitsIntoBlocksAndTail := by
  intro msg
  refine ⟨?_, fun i => hashBlock_length, Machine.hashTail_length msg, (Machine.hashTail_length msg).symm⟩
  rw [flatten_hashBlocks, hashTail, List.take_append_drop]

/-! ### Hexadecimal texts (R10, R262) -/

/-- A hexadecimal character: a digit, or a letter in either case. -/
def isHexChar (c : Byte) : Prop :=
  (48 ≤ c.toNat ∧ c.toNat ≤ 57) ∨ (65 ≤ c.toNat ∧ c.toNat ≤ 70) ∨ (97 ≤ c.toNat ∧ c.toNat ≤ 102)

theorem hexNibble_isSome (c : Byte) : (hexNibble c).isSome = true ↔ isHexChar c := by
  unfold hexNibble isHexChar
  dsimp only
  split_ifs <;> simp <;> omega

/-- A pair of characters decodes with the rest, or not at all. -/
theorem hexDecode_cons_cons_isSome (hi lo : Byte) (rest : Bytes) :
    (hexDecode (hi :: lo :: rest)).isSome = true ↔
      (hexNibble hi).isSome = true ∧ (hexNibble lo).isSome = true ∧ (hexDecode rest).isSome = true := by
  rw [hexDecode]
  cases hexNibble hi <;> cases hexNibble lo <;> cases hexDecode rest <;> simp

theorem hexDecode_isSome : ∀ text : Bytes,
    (hexDecode text).isSome = true ↔ text.length % 2 = 0 ∧ ∀ c ∈ text, isHexChar c
  | [] => by simp [hexDecode]
  | [_] => by simp [hexDecode]
  | hi :: lo :: rest => by
    rw [hexDecode_cons_cons_isSome, hexNibble_isSome, hexNibble_isSome, hexDecode_isSome rest]
    have hparity : (hi :: lo :: rest).length % 2 = rest.length % 2 := Nat.add_mod_right rest.length 2
    rw [hparity, List.forall_mem_cons, List.forall_mem_cons]
    tauto

/-- The text's digit of a number below 16 is read as that number. -/
theorem hexNibble_hexDigit : ∀ n < 16, hexNibble (BitVec.ofNat 8 (hexDigit n).toNat) = some n := by decide

/-- Decoding undoes writing. -/
theorem hexDecode_hexText (msg : Bytes) : hexDecode ((hexText msg).map fun c => BitVec.ofNat 8 c.toNat) = some msg := by
  induction msg with
  | nil => rfl
  | cons b bs ih =>
    have hhigh := hexNibble_hexDigit (b.toNat / 16) (by omega)
    have hlow := hexNibble_hexDigit (b.toNat % 16) (by omega)
    simp only [hexText, List.map_cons, hexDecode, hhigh, hlow, ih, Nat.div_add_mod, BitVec.ofNat_toNat,
      BitVec.setWidth_eq]

/-- Settles O35, pair of characters by pair of characters and byte by byte. -/
theorem hexDecodeAcceptsExactlyPairs : Obligations.HexDecodeAcceptsExactlyPairs :=
  ⟨hexDecode_isSome, hexDecode_hexText⟩

end Sys2Proof
end

section
/-! The rows of the self-test mask (45_command_library.md R248, R249). -/

namespace Sys2Proof.Machine

/-- The report item of a capability whose bit is set (R249). -/
theorem reportItem_failed {b : StBits} {mask : Byte} {c : Capability} (h : mask.getLsbD (capabilityBit b c) = true) :
    reportItem b mask c = capabilityName c ++ ":FAIL ".toList := by
  rw [reportItem, capabilityFailed, if_pos h]
  simp

theorem reportCapability_failed {c : Capability} {mask : Byte} {s : State}
    (h : mask.getLsbD (capabilityBit s.par.stBits c) = true) :
    reportCapability c mask s = .next { s with text := s.text ++ (capabilityName c ++ ":FAIL ".toList) } := by
  rw [reportCapability, reportItem_failed h]

/-- Settles O37: each row reports its capability, whose bit is set. -/
theorem selftestRowsReportFailure : Obligations.SelftestRowsReportFailure := fun _ _ =>
  ⟨fun h => reportCapability_failed (c := .sha) h, fun h => reportCapability_failed (c := .aes) h,
    fun h => reportCapability_failed (c := .ecdh) h, fun h => reportCapability_failed (c := .ecdsaSign) h,
    fun h => reportCapability_failed (c := .ecdsaVerify) h, fun h => reportCapability_failed (c := .rngDrbg) h⟩

end Sys2Proof.Machine
end

section
/-! The exchanges of a library operation with their frames and their events (45_command_library.md R241, R247, R256 to
R259). -/

namespace Sys2Proof.Machine

variable {s t u : State} {op : OpCode} {msg : Bytes} {frame : Bytes} {frames : List Bytes} {es es' : List Event}
  {p q : Power} {a : WrAnswer} {ws : List WrAnswer} {rs : List RdAnswer} {g : Exchange}

/-! ### What the operation has put on the trace -/

theorem SameConfig.trans (h : SameConfig s t) (k : SameConfig t u) : SameConfig s u := by
  obtain ⟨hbus, hdev, hsettle, hreg, hpar⟩ := h
  obtain ⟨kbus, kdev, ksettle, kreg, kpar⟩ := k
  exact ⟨kbus.trans hbus, kdev.trans hdev, ksettle.trans hsettle, kreg.trans hreg, kpar.trans hpar⟩

theorem SameConfig.par (h : SameConfig s t) : t.par = s.par := by
  obtain ⟨-, -, -, -, hpar⟩ := h
  exact hpar

/-! The events of an exchange speak of the configuration only. -/

theorem Exchange.events_congr (h : SameConfig s t) (frame : Bytes) (g : Exchange) :
    g.events t frame = g.events s frame := by
  obtain ⟨hbus, hdev, hsettle, hreg, -⟩ := h
  simp only [Exchange.events, wakeEvents, bodyEvents, idleEvent, hbus, hdev, hsettle, hreg]

theorem ExchangeFailure.events_congr (h : SameConfig s t) (frame : Bytes) (f : ExchangeFailure) :
    f.events t frame = f.events s frame := by
  obtain ⟨hbus, hdev, hsettle, hreg, -⟩ := h
  cases f with
  | wake => simp only [ExchangeFailure.events, wakeEvents, hbus, hdev, hsettle]
  | body a wake f i =>
    cases f <;>
      simp only [ExchangeFailure.events, BodyFailure.events, wakeEvents, bodyEvents, idleEvent, hbus, hdev, hsettle,
        hreg]

theorem sleepEvent_congr (h : SameConfig s t) (a : WrAnswer) : sleepEvent t a = sleepEvent s a := by
  obtain ⟨hbus, hdev, -, hreg, -⟩ := h
  rw [sleepEvent, sleepEvent, hbus, hdev, hreg]

/-- The events of these exchanges one after the other, each with its frame (R232). -/
def exchangeEvents (s : State) (frames : List Bytes) (gs : List Exchange) : List Event :=
  (List.zipWith (fun frame g => Exchange.events s frame g) frames gs).flatten

theorem exchangeEvents_cons (s : State) (frame : Bytes) (frames : List Bytes) (g : Exchange) (gs : List Exchange) :
    exchangeEvents s (frame :: frames) (g :: gs) = g.events s frame ++ exchangeEvents s frames gs := rfl

theorem exchangeEvents_append (s : State) {frames : List Bytes} {gs : List Exchange} (h : frames.length = gs.length)
    (frames' : List Bytes) (gs' : List Exchange) :
    exchangeEvents s (frames ++ frames') (gs ++ gs') = exchangeEvents s frames gs ++ exchangeEvents s frames' gs' := by
  rw [exchangeEvents, List.zipWith_append h, List.flatten_append]
  rfl

/-- Frames without an exchange have no events. -/
theorem exchangeEvents_left (s : State) {frames : List Bytes} {gs : List Exchange} (h : frames.length = gs.length)
    (frames' : List Bytes) : exchangeEvents s (frames ++ frames') gs = exchangeEvents s frames gs := by
  simpa [exchangeEvents] using exchangeEvents_append s h frames' []

/-- From `s` to `t` the operation has made these events and left `PWR` at `p` and the configuration as it was. -/
structure MadeEvents (es : List Event) (p : Power) (s t : State) : Prop where
  trace : t.trace = s.trace ++ es
  pwr : t.pwr = p
  config : SameConfig s t

theorem MadeEvents.refl (s : State) : MadeEvents [] s.pwr s s := ⟨by simp, rfl, rfl, rfl, rfl, rfl, rfl⟩

theorem MadeEvents.trans (h : MadeEvents es p s t) (k : MadeEvents es' q t u) : MadeEvents (es ++ es') q s u :=
  ⟨by rw [k.trace, h.trace, List.append_assoc], k.pwr, h.config.trans k.config⟩

/-! ### The frames that are left -/

/-- The frame of the Update of block `i` (R258). -/
def updateFrame (p : Params) (msg : Bytes) (i : Nat) : Bytes :=
  commandFrame p.opcSha p.shaUpdate 0x40#8 0x00#8 (hashBlock msg i)

/-- The frame of the End (R259). -/
def endFrame (p : Params) (msg : Bytes) : Bytes :=
  commandFrame p.opcSha p.shaEnd (BitVec.ofNat 8 (tailCount msg)) 0x00#8 (hashTail msg)

/-- The frames of SHA256 from block `i` on: its Updates, then the End. -/
def framesFrom (p : Params) (msg : Bytes) (i : Nat) : List Bytes :=
  (List.range' i (blockCount msg - i)).map (updateFrame p msg) ++ [endFrame p msg]

theorem framesFrom_of_lt (p : Params) {i : Nat} (h : i < blockCount msg) :
    framesFrom p msg i = updateFrame p msg i :: framesFrom p msg (i + 1) := by
  obtain ⟨n, hn⟩ : ∃ n, blockCount msg - i = n + 1 := ⟨blockCount msg - (i + 1), by omega⟩
  have hn' : blockCount msg - (i + 1) = n := by omega
  simp [framesFrom, hn, hn', List.range'_succ]

theorem framesFrom_of_le (p : Params) {i : Nat} (h : blockCount msg ≤ i) : framesFrom p msg i = [endFrame p msg] := by
  simp [framesFrom, Nat.sub_eq_zero_of_le h]

/-- All frames of SHA256 are the Start and those from block 0 on (R256). -/
theorem shaFrames_eq (p : Params) (msg : Bytes) :
    shaFrames p msg = commandFrame p.opcSha p.shaStart 0#8 0#8 [] :: framesFrom p msg 0 := by
  rw [framesFrom, Nat.sub_zero, ← List.range_eq_range']
  rfl

theorem framesFrom_ne_nil (p : Params) (msg : Bytes) (i : Nat) : framesFrom p msg i ≠ [] := by simp [framesFrom]

/-- The frames a library operation has left at the first step of an exchange, that exchange's first: IDREAD and SELFTEST
make one exchange (R241, R247), SHA256 its Start, its Updates and its End, `BLK` counting the blocks (R256). -/
inductive FramesLeft (s : State) : List Bytes → Prop
  | single (hop : s.seq.op = .idread ∨ s.seq.op = .selftest) (hl : s.seq.l = .lExec) : FramesLeft s [frameOf s]
  | start (hop : s.seq.op = .sha256) (hl : s.seq.l = .lExec) (hblk : s.blk = 0) :
    FramesLeft s (frameOf s :: framesFrom s.par s.msg 0)
  | update (hop : s.seq.op = .sha256) (hl : s.seq.l = .lUpdate) (hblk : s.blk < blockCount s.msg) :
    FramesLeft s (frameOf s :: framesFrom s.par s.msg (s.blk + 1))
  | final (hop : s.seq.op = .sha256) (hl : s.seq.l = .lEnd) (hblk : s.blk = blockCount s.msg) :
    FramesLeft s [frameOf s]

theorem FramesLeft.l_ne_off (h : FramesLeft s frames) : s.seq.l ≠ .off := by
  cases h with
  | single _ hl | start _ hl | update _ hl | final _ hl => rw [hl]; nofun

theorem FramesLeft.inExecute (h : FramesLeft s frames) (hwrap : s.wrap = true) : InExecute s := by
  cases h with
  | single hop hl => exact .first (by rcases hop with hop | hop <;> rw [hop] <;> rfl) hl hwrap
  | start hop hl => exact .first (by rw [hop]; rfl) hl hwrap
  | update hop hl => exact .later hop (.inl hl) hwrap
  | final hop hl => exact .later hop (.inr hl) hwrap

theorem FramesLeft.head_eq (h : FramesLeft s (frame :: frames)) : frame = frameOf s := by cases h <;> rfl

/-- At the last frame SHA256 has taken every block. -/
theorem FramesLeft.at_last (h : FramesLeft s [frame]) :
    s.seq.op ≠ .sha256 ∨ s.seq.l = .lEnd ∧ s.blk = blockCount s.msg := by
  generalize hf : [frame] = fs at h
  cases h with
  | single hop => exact .inl (by rcases hop with hop | hop <;> rw [hop] <;> nofun)
  | start | update => exact (framesFrom_ne_nil _ _ _ (List.cons.inj hf).2.symm).elim
  | final hop hl hblk => exact .inr ⟨hl, hblk⟩

/-- The block SHA256 goes on with. -/
def nextBlock (s : State) : Nat := s.blk + if s.seq.l = .lUpdate then 1 else 0

/-- With another frame left it is SHA256, before its last block or with its End to go. -/
theorem FramesLeft.more (h : FramesLeft s (frame :: frames)) (hmore : frames ≠ []) :
    (s.seq.op = .sha256 ∧ s.seq.l ≠ .lEnd) ∧ nextBlock s ≤ blockCount s.msg ∧
      frames = framesFrom s.par s.msg (nextBlock s) := by
  cases h with
  | single | final => exact absurd rfl hmore
  | start hop hl hblk => simp [nextBlock, hop, hl, hblk]
  | update hop hl hblk => simpa [nextBlock, hop, hl] using hblk

/-- SHA256 goes on with an Update, or after the last block with the End (R258, R259). -/
theorem framesLeft_enterUpdate (hop : s.seq.op = .sha256) (hblk : s.blk ≤ blockCount s.msg) :
    FramesLeft (enterUpdate s) (framesFrom s.par s.msg s.blk) := by
  rcases hblk.lt_or_eq with hlt | heq
  · rw [framesFrom_of_lt _ hlt, enterUpdate, if_pos hlt]
    exact .update hop rfl hlt
  · have htail : tailCount s.msg < 64 := Nat.mod_lt _ (by decide)
    have hcount : p2Low (tailCount s.msg) = BitVec.ofNat 8 (tailCount s.msg) ∧ p2High (tailCount s.msg) = 0#8 := by
      rw [p2Low, p2High, Nat.mod_eq_of_lt (by omega), Nat.div_eq_of_lt (by omega)]
      exact ⟨rfl, rfl⟩
    rw [framesFrom_of_le _ heq.ge, enterUpdate, if_neg heq.not_lt, hcount.1, hcount.2]
    exact .final hop rfl heq

/-! ### One exchange after the other -/

/-- A library operation stands at the first step of an exchange, as `AtExchange` says, here with the frames it has left
and not their number alone, and with no text. -/
structure AtFrames (op : OpCode) (msg : Bytes) (frames : List Bytes) (ws : List WrAnswer) (rs : List RdAnswer)
    (s : State) : Prop where
  wake : AtWake s
  left : FramesLeft s frames
  op : s.seq.op = op
  msg : s.msg = msg
  err : s.err = .none
  idlep : s.idlep = false
  text : s.text = []
  wrAns : s.wrAns = ws
  rdAns : s.rdAns = rs

theorem AtFrames.inExecute (h : AtFrames op msg frames ws rs s) : InExecute s := h.left.inExecute h.wake.wrap

theorem enterUpdate_sameConfig (s : State) : SameConfig s (enterUpdate s) := by
  unfold enterUpdate
  split <;> exact ⟨rfl, rfl, rfl, rfl, rfl⟩

theorem atFrames_enterUpdate (hb : s.busy = true) (he : s.err = .none) (hi : s.idlep = false) (ht : s.text = [])
    (hop : s.seq.op = .sha256) (hblk : s.blk ≤ blockCount s.msg) :
    AtFrames .sha256 s.msg (framesFrom s.par s.msg s.blk) s.wrAns s.rdAns (enterUpdate s) := by
  have hkeeps := enterUpdate_keeps s
  exact {
    wake := ⟨by simpa using hb, by simp, by simp, by simp⟩
    left := framesLeft_enterUpdate hop hblk
    op := by simpa using hop
    msg := hkeeps.msg
    err := hkeeps.err.trans he
    idlep := hkeeps.idlep hi
    text := hkeeps.text.trans ht
    wrAns := hkeeps.wrAns
    rdAns := hkeeps.rdAns }

/-- An exchange that goes through leads to the next one. -/
theorem AtFrames.next (h : AtFrames op msg (frame :: frames) (g.writes ++ ws) (g.reads ++ rs) t)
    (hmore : frames ≠ []) (hg : g.good t.par.statusMap) (hconfig : SameConfig s t) :
    ∃ u, Reaches t u ∧ AtFrames op msg frames ws rs u ∧ MadeEvents (g.events s frame) .idle t u := by
  have hin := h.inExecute
  obtain ⟨hwake, hleft, rfl, rfl, he, hi, ht, ha, hr⟩ := h
  obtain ⟨⟨hop, hl⟩, hblk, rfl⟩ := hleft.more hmore
  obtain rfl := hleft.head_eq
  let v : State := { exchanged t g ws rs with blk := nextBlock t }
  rw [← Exchange.events_congr hconfig]
  refine ⟨enterUpdate v, reaches_enterUpdate hwake hin hleft.l_ne_off he ⟨hop, hl⟩ hg ha hr, ?_,
    enterUpdate_trace v, (enterUpdate_keeps v).pwr, enterUpdate_sameConfig v⟩
  rw [hop]
  exact atFrames_enterUpdate (s := v) hwake.busy he rfl ht hop hblk

/-- The exchanges `gs` of the frames `done` go through, with at least one more to make. -/
theorem AtFrames.nexts {done rest : List Bytes} {gs : List Exchange}
    (h : AtFrames op msg (done ++ rest) (gs.flatMap Exchange.writes ++ ws) (gs.flatMap Exchange.reads ++ rs) t)
    (hlen : done.length = gs.length) (hrest : rest ≠ []) (hgs : ∀ g ∈ gs, g.good s.par.statusMap)
    (hconfig : SameConfig s t) :
    ∃ u, Reaches t u ∧ AtFrames op msg rest ws rs u ∧
      MadeEvents (exchangeEvents s done gs) (if gs = [] then t.pwr else .idle) t u := by
  induction gs generalizing t done with
  | nil =>
    obtain rfl := List.length_eq_zero_iff.1 hlen
    exact ⟨t, .refl _, h, .refl _⟩
  | cons g gs ih =>
    obtain ⟨frame, done, rfl⟩ := List.exists_cons_of_length_eq_add_one hlen
    rw [List.flatMap_cons, List.flatMap_cons, List.append_assoc, List.append_assoc] at h
    have hg : g.good t.par.statusMap := by
      rw [hconfig.par]
      exact hgs g (by simp)
    obtain ⟨u, hreach, hu, hmade⟩ := h.next (by simp [hrest]) hg hconfig
    obtain ⟨v, hreach', hv, hmade'⟩ := ih hu (by simpa using hlen) (fun g' hg' => hgs g' (by simp [hg']))
      (hconfig.trans hmade.config)
    refine ⟨v, hreach.trans hreach', hv, ?_⟩
    simpa [hmade.pwr, exchangeEvents_cons] using hmade.trans hmade'

end Sys2Proof.Machine
end

section
/-! The output and the error path of a library operation, and the statements about IDREAD, SELFTEST and SHA256
(45_command_library.md R241 to R263). -/

namespace Sys2Proof.Machine

variable {s t u v : State} {i : Instr} {op : OpCode} {msg : Bytes} {frame : Bytes} {frames : List Bytes}
  {a : WrAnswer} {ws : List WrAnswer} {rs : List RdAnswer} {g : Exchange} {text : Text}

/-! ### Where a library operation begins (R241, R247, R256) -/

theorem atFrames_idread (s : State) :
    AtFrames .idread [] [commandFrame s.par.opcRead 0x80#8 0x00#8 0x00#8 []] s.wrAns s.rdAns
      (beginLibExecute .lExec s.par.opcRead Config.readP1 0#8 0#8 [] (accept .idread s)) :=
  ⟨⟨rfl, rfl, rfl, rfl⟩, .single (.inl rfl) rfl, rfl, rfl, rfl, rfl, rfl, rfl, rfl⟩

theorem atFrames_selftest (s : State) :
    AtFrames .selftest [] [commandFrame s.par.opcSelftest 0x3B#8 0x00#8 0x00#8 []] s.wrAns s.rdAns
      (beginLibExecute .lExec s.par.opcSelftest Config.selftestP1 0#8 0#8 [] (accept .selftest s)) :=
  ⟨⟨rfl, rfl, rfl, rfl⟩, .single (.inr rfl) rfl, rfl, rfl, rfl, rfl, rfl, rfl, rfl⟩

/-- SHA256 comes from its preparation to its Start with the message of its text. -/
theorem reaches_shaStart {isHex : Bool} {text : Bytes} (s : State)
    (hmsg : if isHex then hexDecode text = some msg else msg = text) :
    ∃ u t, FirstStep s (.sha256 isHex text) u ∧ Reaches u t ∧
      AtFrames .sha256 msg (shaFrames s.par msg) s.wrAns s.rdAns t ∧ MadeEvents [] s.pwr s t := by
  have hbytes : (if isHex = true then hexDecode text else some text) = some msg := by
    cases isHex
    · simpa using hmsg.symm
    · simpa using hmsg
  have hstep := lPrepStep_some (s := { accept .sha256 s with
    seq := ⟨.sha256, .lPrep, .off, .off⟩, hashText := text, hashHex := isHex }) hbytes
  refine ⟨_, _, .sha256 isHex text, .of_moved hstep, ?_, by simp, by simp, rfl, rfl, rfl, rfl, rfl⟩
  rw [shaFrames_eq]
  exact ⟨⟨rfl, rfl, rfl, rfl⟩, .start rfl rfl rfl, rfl, rfl, rfl, rfl, rfl, rfl, rfl⟩

/-- The first exchange of any of the three, with all its frames left. -/
theorem reaches_firstFrame
    (hi : (i = .idread ∧ frames = [commandFrame s.par.opcRead 0x80#8 0x00#8 0x00#8 []]) ∨
      (i = .selftest ∧ frames = [commandFrame s.par.opcSelftest 0x3B#8 0x00#8 0x00#8 []]) ∨
      ∃ isHex text msg, i = .sha256 isHex text ∧ frames = shaFrames s.par msg ∧
        if isHex then hexDecode text = some msg else msg = text) :
    ∃ u t op msg, FirstStep s i u ∧ Reaches u t ∧ AtFrames op msg frames s.wrAns s.rdAns t ∧
      MadeEvents [] s.pwr s t := by
  rcases hi with ⟨rfl, rfl⟩ | ⟨rfl, rfl⟩ | ⟨isHex, text, msg, rfl, rfl, hmsg⟩
  · exact ⟨_, _, _, _, .idread, .refl _, atFrames_idread s, by simp, by simp, rfl, rfl, rfl, rfl, rfl⟩
  · exact ⟨_, _, _, _, .selftest, .refl _, atFrames_selftest s, by simp, by simp, rfl, rfl, rfl, rfl, rfl⟩
  · obtain ⟨u, t, hfirst, hreach, hat, hmade⟩ := reaches_shaStart s hmsg
    exact ⟨u, t, _, _, hfirst, hreach, hat, hmade⟩

/-! ### The sleep write at `L_SLEEP` (R244, R245) -/

theorem seqStep_enterSleep (hb : s.busy = true) (ha : s.wrAns = a :: ws) :
    seqStep (enterSleep s) = .moved (endOperation (sleepWritten (enterSleep s) a ws)) :=
  (seqStep_busy (by exact hb)).trans (sWriteStep_ends (s := enterSleep s) ha (.inl rfl))

/-! ### The output of a library operation -/

theorem outputText_idread (hop : s.seq.op = .idread) (hp : 13 ≤ (payloadOf s.rxbuf).length) :
    outputText s = .ok (idreadText (payloadOf s.rxbuf)) := by
  simp only [outputText, hop, if_neg (Nat.not_lt.2 hp)]

theorem outputText_sha256 (hop : s.seq.op = .sha256) : outputText s = .ok (shaText (payloadOf s.rxbuf)) := by
  simp only [outputText, hop]

/-- A response that verifies has a first payload byte for SELFTEST (R165, R247). -/
theorem outputText_selftest (hop : s.seq.op = .selftest) (hr : 4 ≤ s.rxbuf.length) :
    outputText s = .ok (selftestText s.par.stBits ((payloadOf s.rxbuf).headD 0#8)) := by
  have hlen : 1 ≤ (payloadOf s.rxbuf).length := by
    simp only [payloadOf, List.length_take, List.length_drop]
    omega
  obtain ⟨mask, rest, hp⟩ := List.exists_cons_of_length_pos hlen
  simp only [outputText, hop, hp, List.headD_cons]

/-- An operation with an output text delivers its text (R243, R249, R260). -/
theorem okValue_of_outputText (h : outputText s = .ok text) (hop : t.seq.op = s.seq.op) : okValue t = .text t.text := by
  rw [okValue, hop]
  cases hop' : s.seq.op <;> simp only [outputText, hop'] at h ⊢ <;> cases h

/-- The state a library operation ends in after its last exchange left `s`: its text, and its sleep write. -/
def slept (s : State) (text : Text) (a : WrAnswer) (ws : List WrAnswer) : State :=
  sleepWritten (enterSleep { enterFormat s with text := text }) a ws

/-- From the formatting step the operation goes over its sleep write to the delivery of its text (R244). -/
theorem format_delivers (hb : s.busy = true) (he : s.err = .none) (hout : outputText s = .ok text)
    (ha : s.wrAns = a :: ws) :
    ∃ u, Reaches (enterFormat s) u ∧ seqStep u = .moved (deliver (.ok (.text text)) (slept s text a ws)) := by
  have hformat : seqStep (enterFormat s) = .moved (enterSleep { enterFormat s with text := text }) :=
    (seqStep_executor (by exact hb) rfl).trans (lFormatStep_ok (s := enterFormat s) hout)
  refine ⟨_, .of_moved hformat, (seqStep_enterSleep (by exact hb) (by exact ha)).trans ?_⟩
  rw [endOperation_ok (by exact he), okValue_of_outputText hout (by rfl)]
  rfl

/-- An operation whose last exchange goes through delivers its text. -/
theorem exec_delivers (hs : Undisturbed s) (hfirst : FirstStep s i u) (hreach : Reaches u t)
    (hat : AtFrames op msg [frame] (g.writes ++ a :: ws) (g.reads ++ rs) t) (hg : g.good t.par.statusMap)
    (hout : outputText (exchanged t g (a :: ws) rs) = .ok text) :
    exec i s = .next (deliver (.ok (.text text)) (slept (exchanged t g (a :: ws) rs) text a ws)) := by
  have hlast : t.seq.op ≠ .sha256 ∨ t.seq.l = .lEnd := hat.left.at_last.imp_right And.left
  have hformat := reaches_enterFormat hat.wake hat.inExecute hat.left.l_ne_off hat.err hlast hg hat.wrAns hat.rdAns
  obtain ⟨v, hsleep, hstep⟩ := format_delivers (s := exchanged t g (a :: ws) rs) hat.wake.busy hat.err hout rfl
  exact hfirst.exec_next hs ((hreach.trans hformat).trans hsleep) hstep rfl

/-- The trace it ends with: the exchange, the sleep write and the text (R244). -/
theorem delivered_trace (s : State) (g : Exchange) (text : Text) (a : WrAnswer) (ws ws' : List WrAnswer)
    (rs : List RdAnswer) :
    (deliver (.ok (.text text)) (slept (exchanged s g ws' rs) text a ws)).trace =
      s.trace ++ g.events s (frameOf s) ++ [sleepEvent s a, .outcome (.ok (.text text))] :=
  List.append_assoc ..

/-! ### The three outputs -/

/-- Settles O30: the one exchange leads to the text of its payload. -/
theorem idreadDeliversSerialAndRevision : Obligations.IdreadDeliversSerialAndRevision := by
  intro g a ws rs s hs hg hp ha hr
  have hat := atFrames_idread s
  rw [ha, hr] at hat
  have hexec := exec_delivers hs .idread (.refl _) hat hg (outputText_idread rfl hp)
  exact ⟨_, hexec, ⟨rfl, rfl⟩, rfl, rfl, rfl, rfl, rfl, rfl, (exec_frame hexec).config, delivered_trace ..⟩

/-- The six items in their order are the report (R248, R249). -/
theorem selftestText_eq (b : StBits) (mask : Byte) :
    selftestText b mask = reportItem b mask .sha ++ reportItem b mask .aes ++ reportItem b mask .ecdh ++
      reportItem b mask .ecdsaSign ++ reportItem b mask .ecdsaVerify ++ reportItem b mask .rngDrbg := by
  simp [selftestText, reportOrder]

/-- Settles O32: the one exchange leads to the report of its first payload byte. -/
theorem selftestDeliversTheReport : Obligations.SelftestDeliversTheReport := by
  intro g a ws rs s hs hg ha hr
  have hat := atFrames_selftest s
  rw [ha, hr] at hat
  have hresp : 4 ≤ g.resp.length := by
    obtain ⟨-, st, hok⟩ := hg
    exact length_of_verifyResult_ok hok
  have hout := outputText_selftest (s := exchanged _ g (a :: ws) rs) (by exact hat.op) hresp
  have hexec := exec_delivers hs .selftest (.refl _) hat hg hout
  rw [selftestText_eq] at hexec
  exact ⟨_, hexec, ⟨rfl, rfl⟩, rfl, rfl, rfl, rfl, rfl, rfl, (exec_frame hexec).config, delivered_trace ..⟩

/-- Settles O33: every exchange but the last leads to the next one, and the End's response is the digest. -/
theorem sha256RunsEveryBlock : Obligations.Sha256RunsEveryBlock := by
  intro isHex text msg gs last a ws rs s hs hmsg hlen hgs ha hr
  obtain ⟨u, first, hfirst, hreach, hat, hmade⟩ := reaches_shaStart s hmsg
  obtain ⟨done, hframes, hdone⟩ : ∃ done, shaFrames s.par msg = done ++ [endFrame s.par msg] ∧
      done.length = gs.length := ⟨_, rfl, by simp [hlen, Nat.add_comm]⟩
  rw [hframes, ha, hr, List.flatMap_append, List.flatMap_append, List.append_assoc, List.append_assoc] at hat
  obtain ⟨t, hgone, hlast, hmade'⟩ := hat.nexts hdone (by simp) (fun g hg => hgs g (by simp [hg])) hmade.config
  have hrun := hmade.trans hmade'
  have hg : last.good t.par.statusMap := by
    rw [hrun.config.par]
    exact hgs last (by simp)
  have hexec := exec_delivers hs hfirst (hreach.trans hgone) (by simpa using hlast) hg
    (text := shaText (payloadOf last.resp)) (outputText_sha256 hlast.op)
  have hblk : t.blk = msg.length / 64 := by
    rcases hlast.left.at_last with hop | ⟨-, hblk⟩
    · exact absurd hlast.op hop
    · rw [hblk, hlast.msg]
      rfl
  have hevents : exchangeEvents s (shaFrames s.par msg) (gs ++ [last]) =
      exchangeEvents s done gs ++ last.events s (endFrame s.par msg) := by
    rw [hframes, exchangeEvents_append s hdone, exchangeEvents_cons]
    exact congrArg _ (List.append_nil _)
  refine ⟨_, hexec, ⟨rfl, rfl⟩, rfl, hlast.err, rfl, hblk, hlast.msg, ?_, rfl, rfl, (exec_frame hexec).config, ?_⟩
  · rw [← hrun.config.par]
    rfl
  · change _ = s.trace ++ exchangeEvents s (shaFrames s.par msg) (gs ++ [last]) ++ _
    rw [delivered_trace, hrun.trace, Exchange.events_congr hrun.config, sleepEvent_congr hrun.config,
      ← hlast.left.head_eq, hevents, List.nil_append, List.append_assoc s.trace]
    rfl

/-! ### The error paths (R245, R262, R263) -/

/-- Settles O34: the text is decoded in the first step, outside an EXECUTE. -/
theorem sha256RejectsBadHex : Obligations.Sha256RejectsBadHex := by
  intro text s hs hbad
  let u : State := { accept .sha256 s with seq := ⟨.sha256, .lPrep, .off, .off⟩, hashText := text, hashHex := true }
  have hprep : seqStep u = .moved (deliver (.error .decodeError) (setError .decodeError u)) := by
    change lPrepStep u = _
    rw [lPrepStep_none (s := u) hbad, raise_outside rfl, endOperation_error rfl]
  exact (FirstStep.sha256 true text).exec_ended hs hprep rfl

theorem Reaches.inv (h : Reaches s t) (hs : StateInv s = true) : StateInv t = true := by
  obtain ⟨n, hn⟩ := h
  have hsound := runSeq_sound n hs
  rwa [← Nat.zero_add n, hn] at hsound

/-- In the invariant a sequencer that stands somewhere belongs to an operation in progress (R28). -/
theorem busy_of_l_ne_off (h : StateInv s = true) (hl : s.seq.l ≠ .off) : s.busy = true := by
  cases ((stateInv_iff s).1 h).2 with
  | quiet _ hseq => exact absurd (by rw [hseq]) hl
  | wake hb | sleep hb | idle hb | execute hb | prepare hb | format hb | librarySleep hb => exact hb

/-- An operation with an exchange that fails ends with its error, over a sleep write or at once (R245). -/
theorem exec_fails {f : ExchangeFailure} (hs : Undisturbed s) (hfirst : FirstStep s i u) (hreach : Reaches u t)
    (hat : AtFrames op msg (frame :: frames) (f.writes ++ a :: ws) (f.reads ++ rs) t)
    (hf : f.genuine t.par.statusMap) :
    ∃ v, ExchangeFailed f (a :: ws) rs t v ∧
      (t.par.libSleepOnError = true →
        exec i s = .next (deliver (.error f.error) (sleepWritten (enterSleep v) a ws))) ∧
      (t.par.libSleepOnError = false → exec i s = .next (deliver (.error f.error) (executeDone v))) := by
  obtain ⟨w, v, hbody, hstep, hfailed⟩ := exchangeFailure_returns hat.wake hat.idlep hf hat.wrAns hat.rdAns
  have hw : Reaches u w := hreach.trans hbody
  have hl : v.seq.l ≠ .off := hfailed.l.trans_ne hat.left.l_ne_off
  rw [← hfailed.config.par]
  refine ⟨v, hfailed, ?_⟩
  rcases leaveExecute_cases v with ⟨hoff, -⟩ | ⟨-, hnone, -⟩ | ⟨-, -, hp, hmove⟩ | ⟨-, -, hp, hmove⟩
  · exact absurd hoff hl
  · exact absurd hnone (err_ne_none_of_raisedError hfailed.error)
  · have hsleep : Reaches u (enterSleep v) := hw.step (hstep.trans hmove)
    have hb : v.busy = true := busy_of_l_ne_off (s := enterSleep v) (hsleep.inv hfirst.inv) (by exact nofun)
    refine ⟨fun _ => hfirst.exec_next hs hsleep ?_ rfl, fun hp' => absurd (hp.symm.trans hp') nofun⟩
    rw [seqStep_enterSleep hb hfailed.wrAns, endOperation_error (by exact hfailed.error)]
  · refine ⟨fun hp' => absurd (hp.symm.trans hp') nofun, fun _ => hfirst.exec_next hs hw ?_ rfl⟩
    rw [hstep, hmove, endOperation_error (by exact hfailed.error)]
    rfl

/-- Settles O36: the exchanges before the failing one lead to it, and it ends the operation. -/
theorem libraryErrorPath : Obligations.LibraryErrorPath := by
  intro i frames s hi gs f b ws rs hs hn hgs hf ha hr
  obtain ⟨u, first, op, msg, hfirst, hreach, hat, hmade⟩ := reaches_firstFrame hi
  obtain ⟨done, frame, rest, rfl, hdone⟩ : ∃ done frame rest, frames = done ++ frame :: rest ∧
      done.length = gs.length :=
    ⟨frames.take gs.length, frames[gs.length], frames.drop (gs.length + 1), by simp, by simp; omega⟩
  rw [ha, hr, List.append_assoc, List.append_assoc] at hat
  obtain ⟨t, hgone, ht, hmade'⟩ := hat.nexts hdone (by simp) hgs hmade.config
  have hrun := hmade.trans hmade'
  obtain ⟨v, hfailed, hsleeps, hends⟩ := exec_fails hs hfirst (hreach.trans hgone) ht (by rwa [hrun.config.par])
  rw [hrun.config.par] at hsleeps hends
  have hpwr : v.pwr = if gs = [] ∧ f.inWake then s.pwr else .idle := by
    rw [hfailed.pwr, hrun.pwr, hmade.pwr]
    cases f.inWake <;> simp
  intro events
  have hevents : events = exchangeEvents s done gs ++ f.events s frame := by
    have hframe : (done ++ frame :: rest).getD gs.length [] = frame := by simp [← hdone]
    change exchangeEvents s (done ++ frame :: rest) gs ++ f.events s ((done ++ frame :: rest).getD gs.length []) = _
    rw [exchangeEvents_left s hdone, hframe]
  have htrace : v.trace = s.trace ++ events := by
    rw [hfailed.trace, hrun.trace, ExchangeFailure.events_congr hrun.config, ← ht.left.head_eq, hevents]
    simp
  have hsleep : sleepEvent (enterSleep v) b = sleepEvent s b := sleepEvent_congr (hrun.config.trans hfailed.config) b
  cases hp : s.par.libSleepOnError
  · have hexec := hends hp
    exact ⟨_, hexec, ⟨rfl, rfl⟩, hfailed.error, hfailed.idlep, hfailed.text.trans ht.text, (exec_frame hexec).config,
      hfailed.rdAns, nofun, fun _ => ⟨hpwr, hfailed.wrAns, congrArg (· ++ _) htrace⟩⟩
  · have hexec := hsleeps hp
    refine ⟨_, hexec, ⟨rfl, rfl⟩, hfailed.error, hfailed.idlep, hfailed.text.trans ht.text, (exec_frame hexec).config,
      hfailed.rdAns, fun _ => ⟨rfl, rfl, ?_⟩, nofun⟩
    change (v.trace ++ [sleepEvent (enterSleep v) b]) ++ [.outcome (.error f.error)] = _
    rw [hsleep, htrace, List.append_assoc]
    rfl

end Sys2Proof.Machine
end

section
/-! The three writes whose answers are discarded (R13, R288). What such a step does once its write is answered, it does
whatever the trace holds: earlier events stay in front of what it adds. So two answers leave the same state, and the same
events after the write. -/

namespace Sys2Proof.Machine

variable {s : State} {past : List Event}

/-! ### The same step with an earlier past -/

/-- `s` with the events `past` before those of its trace. -/
def State.withPast (past : List Event) (s : State) : State := { s with trace := past ++ s.trace }

@[simp] theorem withPast_trace : (s.withPast past).trace = past ++ s.trace := rfl
@[simp] theorem withPast_seq : (s.withPast past).seq = s.seq := rfl

/-- A past alone is the whole trace. -/
theorem withPast_of_empty (past : List Event) (s : State) :
    State.withPast past { s with trace := [] } = { s with trace := past } := by
  simp [State.withPast]

/-- Two sequencer steps, the second with an earlier past, do the same, and neither waits. -/
inductive MovesWithPast (past : List Event) : SeqResult → SeqResult → Prop
  | moved (t : State) : MovesWithPast past (.moved t) (.moved (t.withPast past))
  | fault (f : Fault) : MovesWithPast past (.fault f) (.fault f)

theorem MovesWithPast.of_eq {t u : State} (h : u = t.withPast past) : MovesWithPast past (.moved t) (.moved u) := by
  rw [h]
  exact .moved t

theorem deliver_withPast (o : OpOutcome) : deliver o (s.withPast past) = (deliver o s).withPast past := by
  rw [deliver, withPast_trace, List.append_assoc]
  rfl

theorem endOperation_withPast : endOperation (s.withPast past) = (endOperation s).withPast past := by
  have he : raisedError (s.withPast past) = raisedError s := rfl
  unfold endOperation
  rw [he]
  cases raisedError s
  · exact deliver_withPast _
  · exact deliver_withPast _

/-! ### Leaving an EXECUTE (R230, R241, R245) -/

theorem enterUpdate_withPast : enterUpdate (s.withPast past) = (enterUpdate s).withPast past := by
  rw [enterUpdate, enterUpdate, apply_ite (State.withPast past)]
  rfl

theorem libNext_withPast : MovesWithPast past (libNext s) (libNext (s.withPast past)) := by
  unfold libNext
  rw [withPast_seq]
  split
  case h_1 | h_2 | h_5 => exact .moved (enterFormat s)
  case h_3 => exact .of_eq enterUpdate_withPast
  case h_4 => exact .of_eq (enterUpdate_withPast (s := { s with blk := s.blk + 1 }))
  case h_6 => exact .fault _

theorem libError_withPast : libError (s.withPast past) = (libError s).withPast past := by
  have hp : (s.withPast past).par = s.par := rfl
  unfold libError
  rw [hp]
  split
  · rfl
  · exact endOperation_withPast

theorem leaveExecute_withPast : MovesWithPast past (leaveExecute s) (leaveExecute (s.withPast past)) :=
  rel_ite .rfl (.of_eq (endOperation_withPast (s := executeDone s)))
    (rel_ite .rfl (libNext_withPast (s := executeDone s)) (.of_eq (libError_withPast (s := executeDone s))))

/-! ### The end of a sleep write and of an idle write (R206, R208) -/

/-- A power-state sequence is over: it ends the operation, or not. -/
theorem powerDone_withPast {c : Prop} [Decidable c] :
    (if c then endOperation (s.withPast past) else s.withPast past) =
      (if c then endOperation s else s).withPast past := by
  rw [endOperation_withPast, apply_ite (State.withPast past)]

theorem sleepDone_withPast : sleepDone (s.withPast past) = (sleepDone s).withPast past :=
  powerDone_withPast (s := { s with pwr := .dormant, seq := { s.seq with w := .off } })

theorem idleDone_withPast : MovesWithPast past (idleDone s) (idleDone (s.withPast past)) := by
  by_cases hx : s.seq.x = .xExit
  · rw [idleDone_execute hx, idleDone_execute (by exact hx)]
    exact leaveExecute_withPast (s := { s with pwr := .idle, idlep := false, seq := { s.seq with w := .off } })
  · rw [idleDone_host hx, idleDone_host (by exact hx)]
    exact .of_eq (powerDone_withPast (s := { s with pwr := .idle, seq := { s.seq with w := .off } }))

/-! ### The three rows (R288) -/

/-- Each of the three writes goes on from its event as from an empty trace: the answer stands in the event only. -/
theorem exec_discardedWrite {i : Instr} (hi : i ∈ [Instr.wakeWr, .sleepWr, .idleWr]) (ws : List WrAnswer) (s : State) :
    ∃ (bus dev reg : Byte) (bytes : Bytes) (r : SeqResult), ∀ a, ∃ r',
      exec i { s with wrAns := a :: ws } = ofSeq { s with wrAns := a :: ws } r' ∧
        MovesWithPast (s.trace ++ [.busWrite bus dev reg bytes a]) r r' := by
  have hpast (e : Event) := withPast_of_empty (s.trace ++ [e]) { s with wrAns := ws }
  simp only [List.mem_cons, List.not_mem_nil, or_false] at hi
  rcases hi with rfl | rfl | rfl
  · refine ⟨s.cfgBus, 0x00#8, 0x00#8, [0x00#8], .moved (advanceW { s with wrAns := ws, trace := [] }),
      fun a => ⟨_, congrArg (ofSeq _) (wWriteStep_answered (s := { s with wrAns := a :: ws }) rfl), ?_⟩⟩
    exact .of_eq (congrArg advanceW (hpast _).symm)
  · refine ⟨s.cfgBus, s.cfgDevaddr, s.cfgCmdreg, [0x01#8], .moved (sleepDone { s with wrAns := ws, trace := [] }),
      fun a => ⟨_, congrArg (ofSeq _) (sWriteStep_answered (s := { s with wrAns := a :: ws }) rfl), ?_⟩⟩
    exact .of_eq ((congrArg sleepDone (hpast _).symm).trans sleepDone_withPast)
  · refine ⟨s.cfgBus, s.cfgDevaddr, s.cfgCmdreg, [0x02#8], idleDone { s with wrAns := ws, trace := [] },
      fun a => ⟨_, congrArg (ofSeq _) (iWriteStep_answered (s := { s with wrAns := a :: ws }) rfl), ?_⟩⟩
    exact hpast _ ▸ idleDone_withPast

/-- Settles O22: from the empty trace the step moves to one state, and each answer only puts its own past before that
state's trace. -/
theorem discardedAnswersChangeNothing : Obligations.DiscardedAnswersChangeNothing := by
  intro i hi a a' ws s t h
  obtain ⟨bus, dev, reg, bytes, r, hrow⟩ := exec_discardedWrite hi ws s
  obtain ⟨_, hexec, hmove⟩ := hrow a
  obtain ⟨_, hexec', hmove'⟩ := hrow a'
  rw [hexec] at h
  cases hmove with
  | moved u =>
    cases h
    cases hmove'
    exact ⟨_, bus, dev, reg, bytes, u.trace, hexec', rfl, List.append_assoc .., List.append_assoc ..⟩
  | fault f => cases h

end Sys2Proof.Machine
end

section
/-! An operation with no answer to its transport call waits (70_reset_and_hazards.md R336), and an accepted operation ends
or comes to such a call (R341). -/

namespace Sys2Proof.Machine

variable {s t : State} {n : Nat}

/-! ### A transport call without an answer (R64, R65) -/

theorem busWrite_unanswered (h : s.wrAns = []) (dev reg : Byte) (b : Bytes) : busWrite dev reg b s = none := by
  rw [busWrite, h]

theorem busRead_unanswered (h : s.rdAns = []) (dev reg : Byte) (k : Nat) : busRead dev reg k s = none := by
  rw [busRead, h]

/-- The sequencer stands at a bus write: of a power-state sequence, or of the body of an EXECUTE. -/
def AtBusWrite (s : State) : Prop :=
  s.seq.w = .wWrite ∨ s.seq.w = .sWrite ∨ s.seq.w = .iWrite ∨ (s.seq.w = .off ∧ (s.seq.x = .xWrcmd ∨ s.seq.x = .xTrig))

/-- The sequencer stands at a bus read, in the same sense. -/
def AtBusRead (s : State) : Prop :=
  s.seq.w = .wRead ∨ (s.seq.w = .off ∧ (s.seq.x = .xRdlen ∨ s.seq.x = .xRdfrm))

theorem AtBusWrite.wStep_stay (hat : AtBusWrite s) (h : s.wrAns = []) : wStep s = .stay := by
  rcases hat with hw | hw | hw | ⟨hw, hx | hx⟩
  · simp only [wStep, hw, wWriteStep, busWrite_unanswered h]
  · simp only [wStep, hw, sWriteStep, busWrite_unanswered h]
  · simp only [wStep, hw, iWriteStep, busWrite_unanswered h]
  · simp only [wStep, hw, xStep, hx, xWrcmdStep, busWrite_unanswered h]
  · simp only [wStep, hw, xStep, hx, xTrigStep, busWrite_unanswered h]

theorem AtBusRead.wStep_stay (hat : AtBusRead s) (h : s.rdAns = []) : wStep s = .stay := by
  rcases hat with hw | ⟨hw, hx | hx⟩
  · simp only [wStep, hw, wReadStep, busRead_unanswered h]
  · simp only [wStep, hw, xStep, hx, xRdlenStep, busRead_unanswered h]
  · simp only [wStep, hw, xStep, hx, xRdfrmStep, busRead_unanswered h]

/-- Where no sequencer step is enabled, a step without an input is the stutter (log 8). -/
theorem step_stutters (hq : seqStep s = .stay) (hin : s.inputs = []) : step s = .next s := by
  rw [step_no_input hin, ownStep, hq]
  rfl

/-- Settles O23: the bus call answers nothing, so the step it belongs to is not enabled. -/
theorem unansweredCallWaits : Obligations.UnansweredCallWaits := by
  intro s hb hcall
  have hstay : wStep s = .stay := by
    rcases hcall with ⟨hans, hat⟩ | ⟨hans, hat⟩
    · exact AtBusWrite.wStep_stay hat hans
    · exact AtBusRead.wStep_stay hat hans
  have hq : seqStep s = .stay := (seqStep_busy hb).trans hstay
  exact ⟨⟨hb, hq⟩, step_stutters hq⟩

/-! ### The end of a run (R336, R341) -/

/-- With steps enough for the operation a run stops only where no further step is enabled. -/
theorem seqStep_stay_of_runSeq (hn : stepsLeft s < n) (h : runSeq n s = .next t) : seqStep t = .stay := by
  induction n generalizing s with
  | zero => exact absurd hn (Nat.not_lt_zero _)
  | succ n ih =>
    cases hq : seqStep s with
    | moved u =>
      rw [runSeq_moved hq] at h
      have hless := stepsLeft_lt_of_seqStep hq
      exact ih (by omega) h
    | stay =>
      cases (runSeq_stay hq).symm.trans h
      exact hq
    | fault f => cases (runSeq_fault hq).symm.trans h

/-- In the invariant the sequencer stands at 0 when no operation is in progress (R28). -/
theorem quiet_or_busy (h : StateInv s = true) : Quiet s ∨ s.busy = true := by
  cases ((stateInv_iff s).1 h).2 with
  | quiet hb hseq => exact .inl ⟨hb, hseq⟩
  | wake hb | sleep hb | idle hb | execute hb | prepare hb | format hb | librarySleep hb => exact .inr hb

/-- Settles O54: a unit operation ends in its one step. Any other has steps enough in its budget, so its run stops where
the invariant holds and no step is enabled. -/
theorem operationEndsOrWaits : Obligations.OperationEndsOrWaits := by
  intro i s t hi hin h
  rcases exec_request_cases hi s with ⟨r, e⟩ | ⟨-, u, hu, e⟩ | ⟨-, u, hu, e⟩
  · cases e.symm.trans h
  · cases e.symm.trans h
    exact .inl hu.frame.quiet
  · have hrun : runSeq (stepBudget u) u = .next t := by
      rw [← runOperation_no_input (hu.inputs.trans hin), ← e, h]
    have hinv : StateInv t = true := by
      have hsound := runSeq_sound (stepBudget u) hu.inv
      rwa [hrun] at hsound
    have hstay := seqStep_stay_of_runSeq hu.stepsLeft_lt hrun
    exact (quiet_or_busy hinv).imp_right fun hb => ⟨hb, hstay⟩

end Sys2Proof.Machine
end
